-- ==== Sys2Proof/Word.lean ====
section
/-! DEFINITION. The word type of the block. -/

namespace Sys2Proof

/-- The instruction word: "an opaque 32-bit unsigned value" (R5), bit 31 most significant (R9). -/
abbrev Word := BitVec 32

/-- One byte of the memory a surrounding system fetches from. The block itself never sees bytes (R41). -/
abbrev Byte := BitVec 8

end Sys2Proof
end

