-- ==== Sys2Proof/Config.lean ====
section
/-! DEFINITION. The elaboration-time parameters of the block (00_scope.md R6, R7). -/

namespace Sys2Proof

/-- `CLASS_11X_POLICY` (R6): how the class field values 110 and 111 are treated (R151). -/
inductive Class11xPolicy where
  | supervisorCall
  | reject
  deriving DecidableEq, Repr

/-- `FETCH_BYTE_ORDER` (R7): how a fetch unit builds the word from four memory bytes. The spec leaves it open and
no rule of the block reads it. PRESUMED (log 2): the two usual orders are its values. -/
inductive FetchByteOrder where
  | littleEndian
  | bigEndian
  deriving DecidableEq, Repr

/-- The parameters that are chosen when the block is built and that nothing writes while it operates (R24, R332). -/
structure Params where
  class11xPolicy : Class11xPolicy
  fetchByteOrder : FetchByteOrder
  deriving DecidableEq, Repr

/-- The default of `CLASS_11X_POLICY` (R6), and little-endian fetch: DESIGN CHOICE, unsafe (log 2), since R7 leaves
the byte order open; no output of the block depends on it. -/
def Params.default : Params := { class11xPolicy := .supervisorCall, fetchByteOrder := .littleEndian }

end Sys2Proof
end

