-- ==== Sys2Proof/Syntax.lean ====
section
/-! DEFINITION. The value types of the block's ports (R28) and the instructions of spec/opcode_table.json. -/

namespace Sys2Proof

/-- The closed enumeration of 15 conditions (R120), in the source's order. Code 1111 is no member (R123). -/
inductive Condition where
  | eq | ne | cs | cc | mi | pl | vs | vc | hi | ls | ge | lt | gt | le | al
  deriving DecidableEq, Repr

/-- The six instruction classes (R151). -/
inductive InstructionClass where
  | dataProcessing | loadStore | loadStoreMultiple | media | branch | supervisorCall
  deriving DecidableEq, Repr

/-- The twelve DataProcessing sub-forms, in the source's priority order (R182 to R193). -/
inductive DataProcessingForm where
  | dataProcessingRegister | dataProcessingRegisterShifted | miscellaneous | halfwordMultiply
  | multiplyAccumulate | synchronizationPrimitives | extraLoadStore | extraLoadStoreUnprivileged
  | dataProcessingImmediate | movImmediate16 | movTopImmediate16 | msrImmediateHints
  deriving DecidableEq, Repr

/-- The 23 mnemonics and the catch-all `Undefined(word)` (R220). Only `Swi` and `Undefined` carry data. -/
inductive Mnemonic where
  | and | eor | sub | rsb | add | adc | sbc | rsc | tst | teq | cmp | cmn | orr | mov | bic | mvn
  | ldr | str | ldrb | strb | b | bl
  | swi (imm24 : BitVec 24)
  | undefined (word : Word)
  deriving DecidableEq, Repr

/-- One constructor per row of spec/opcode_table.json. The arguments are every bit the row leaves free, so a word is
recovered bit for bit (R65): the condition; `f`, the S bit (bit 20), where it is free (R222: a test mnemonic has it
fixed at 1); and the undecoded operand bits, `hi` above `mid` above `lo`.
Register form: `hi` is bits 19:5 and `lo` bits 3:0. Register-shifted form: `hi` is bits 19:8, `mid` bits 6:5, `lo`
bits 3:0. Immediate form: `lo` is bits 19:0. LoadStore: `hi` is bits 24:23, `mid` bit 21, `lo` bits 19:0.
Branch: `hi` is bit 25 (both class codes 100 and 101 resolve, R225) and `offset` bits 23:0.
Swi: `hi` is bits 25:24 and `imm24` bits 23:0. -/
inductive Instr where
  | andRegister (c : Condition) (f : BitVec 1) (hi : BitVec 15) (lo : BitVec 4)
  | eorRegister (c : Condition) (f : BitVec 1) (hi : BitVec 15) (lo : BitVec 4)
  | subRegister (c : Condition) (f : BitVec 1) (hi : BitVec 15) (lo : BitVec 4)
  | rsbRegister (c : Condition) (f : BitVec 1) (hi : BitVec 15) (lo : BitVec 4)
  | addRegister (c : Condition) (f : BitVec 1) (hi : BitVec 15) (lo : BitVec 4)
  | adcRegister (c : Condition) (f : BitVec 1) (hi : BitVec 15) (lo : BitVec 4)
  | sbcRegister (c : Condition) (f : BitVec 1) (hi : BitVec 15) (lo : BitVec 4)
  | rscRegister (c : Condition) (f : BitVec 1) (hi : BitVec 15) (lo : BitVec 4)
  | tstRegister (c : Condition) (hi : BitVec 15) (lo : BitVec 4)
  | teqRegister (c : Condition) (hi : BitVec 15) (lo : BitVec 4)
  | cmpRegister (c : Condition) (hi : BitVec 15) (lo : BitVec 4)
  | cmnRegister (c : Condition) (hi : BitVec 15) (lo : BitVec 4)
  | orrRegister (c : Condition) (f : BitVec 1) (hi : BitVec 15) (lo : BitVec 4)
  | movRegister (c : Condition) (f : BitVec 1) (hi : BitVec 15) (lo : BitVec 4)
  | bicRegister (c : Condition) (f : BitVec 1) (hi : BitVec 15) (lo : BitVec 4)
  | mvnRegister (c : Condition) (f : BitVec 1) (hi : BitVec 15) (lo : BitVec 4)
  | andRegisterShifted (c : Condition) (f : BitVec 1) (hi : BitVec 12) (mid : BitVec 2) (lo : BitVec 4)
  | eorRegisterShifted (c : Condition) (f : BitVec 1) (hi : BitVec 12) (mid : BitVec 2) (lo : BitVec 4)
  | subRegisterShifted (c : Condition) (f : BitVec 1) (hi : BitVec 12) (mid : BitVec 2) (lo : BitVec 4)
  | rsbRegisterShifted (c : Condition) (f : BitVec 1) (hi : BitVec 12) (mid : BitVec 2) (lo : BitVec 4)
  | addRegisterShifted (c : Condition) (f : BitVec 1) (hi : BitVec 12) (mid : BitVec 2) (lo : BitVec 4)
  | adcRegisterShifted (c : Condition) (f : BitVec 1) (hi : BitVec 12) (mid : BitVec 2) (lo : BitVec 4)
  | sbcRegisterShifted (c : Condition) (f : BitVec 1) (hi : BitVec 12) (mid : BitVec 2) (lo : BitVec 4)
  | rscRegisterShifted (c : Condition) (f : BitVec 1) (hi : BitVec 12) (mid : BitVec 2) (lo : BitVec 4)
  | tstRegisterShifted (c : Condition) (hi : BitVec 12) (mid : BitVec 2) (lo : BitVec 4)
  | teqRegisterShifted (c : Condition) (hi : BitVec 12) (mid : BitVec 2) (lo : BitVec 4)
  | cmpRegisterShifted (c : Condition) (hi : BitVec 12) (mid : BitVec 2) (lo : BitVec 4)
  | cmnRegisterShifted (c : Condition) (hi : BitVec 12) (mid : BitVec 2) (lo : BitVec 4)
  | orrRegisterShifted (c : Condition) (f : BitVec 1) (hi : BitVec 12) (mid : BitVec 2) (lo : BitVec 4)
  | movRegisterShifted (c : Condition) (f : BitVec 1) (hi : BitVec 12) (mid : BitVec 2) (lo : BitVec 4)
  | bicRegisterShifted (c : Condition) (f : BitVec 1) (hi : BitVec 12) (mid : BitVec 2) (lo : BitVec 4)
  | mvnRegisterShifted (c : Condition) (f : BitVec 1) (hi : BitVec 12) (mid : BitVec 2) (lo : BitVec 4)
  | andImmediate (c : Condition) (f : BitVec 1) (lo : BitVec 20)
  | eorImmediate (c : Condition) (f : BitVec 1) (lo : BitVec 20)
  | subImmediate (c : Condition) (f : BitVec 1) (lo : BitVec 20)
  | rsbImmediate (c : Condition) (f : BitVec 1) (lo : BitVec 20)
  | addImmediate (c : Condition) (f : BitVec 1) (lo : BitVec 20)
  | adcImmediate (c : Condition) (f : BitVec 1) (lo : BitVec 20)
  | sbcImmediate (c : Condition) (f : BitVec 1) (lo : BitVec 20)
  | rscImmediate (c : Condition) (f : BitVec 1) (lo : BitVec 20)
  | tstImmediate (c : Condition) (lo : BitVec 20)
  | teqImmediate (c : Condition) (lo : BitVec 20)
  | cmpImmediate (c : Condition) (lo : BitVec 20)
  | cmnImmediate (c : Condition) (lo : BitVec 20)
  | orrImmediate (c : Condition) (f : BitVec 1) (lo : BitVec 20)
  | movImmediate (c : Condition) (f : BitVec 1) (lo : BitVec 20)
  | bicImmediate (c : Condition) (f : BitVec 1) (lo : BitVec 20)
  | mvnImmediate (c : Condition) (f : BitVec 1) (lo : BitVec 20)
  | ldr (c : Condition) (hi : BitVec 2) (mid : BitVec 1) (lo : BitVec 20)
  | str (c : Condition) (hi : BitVec 2) (mid : BitVec 1) (lo : BitVec 20)
  | ldrb (c : Condition) (hi : BitVec 2) (mid : BitVec 1) (lo : BitVec 20)
  | strb (c : Condition) (hi : BitVec 2) (mid : BitVec 1) (lo : BitVec 20)
  | b (c : Condition) (hi : BitVec 1) (offset : BitVec 24)
  | bl (c : Condition) (hi : BitVec 1) (offset : BitVec 24)
  | swi (c : Condition) (hi : BitVec 2) (imm24 : BitVec 24)
  deriving DecidableEq, Repr

end Sys2Proof
end

