-- ==== Sys2Proof/Machine/State.lean ====
section
/-! DEFINITION. What one atomic step of the block reads and produces: the elaboration parameters and the value of
every port (10_state.md R20, R30; 70_reset_and_hazards.md R336). The block has no storage element, no register and
no memory (R20 to R27), so nothing else is state. -/

namespace Sys2Proof.Machine

/-- Why the machine stops with a fault. -/
inductive Fault where
  /-- `InvalidBitPosition(P)` (R304): raised by `bfRead`, `bfWrite` and `bfMatch` for a position list that is empty,
  has a position of 32 or more, or repeats a position (R101). Carries the list. SAFE: the spec itself makes it a
  failure, and no decode or encode path raises it (R106). -/
  | invalidBitPosition (positions : List Nat)
  deriving DecidableEq, Repr

/-- Why an input is given no meaning. The first four are raised by the encode ports, each on its own output port
(R305); none of them ends a step. -/
inductive Refusal where
  /-- An instruction without a meaning, raised by `exec`'s arm of that name. SAFE: nothing is claimed of it. No arm
  of this model raises it. -/
  | notModelled (mnemonic : String)
  /-- `enc_cond_in = 1111` (R125), raised by `encodeCondPort`. SAFE: no property of the output is claimed (R305). -/
  | encCondIn
  /-- `enc_class_in` = 6 or 7 (R157), raised by `encodeClassPort`. SAFE: as above. -/
  | encClassIn
  /-- `enc_subform_in` = 12 to 15 (R199), raised by `encodeSubformPort`. SAFE: as above. -/
  | encSubformIn
  /-- `enc_mnem_in` = 24 to 31 (R256), raised by `encodeMnemonicPort`. SAFE: as above. -/
  | encMnemIn
  deriving DecidableEq, Repr

/-- The value of an encode output port. DEDUCED, safe (log 7): for an input outside its enumeration the model gives
"a refusal and no word" (R305) on that port, while the other ports are driven as R30 says. -/
inductive PortOut (n : Nat) where
  | driven (v : BitVec n)
  | refused (r : Refusal)
  deriving DecidableEq, Repr

/-- The encode group's input ports (R30), as raw port values. -/
structure EncodeInputs where
  /-- `enc_cond_in`, a Condition identifier. -/
  condIn : BitVec 4
  /-- `enc_class_in`, an InstructionClass identifier. -/
  classIn : BitVec 3
  /-- `enc_class_word_in`, the word to overlay. -/
  classWordIn : Word
  /-- `enc_subform_in`, a DataProcessingForm identifier. -/
  subformIn : BitVec 4
  /-- `enc_subform_word_in`, the word to overlay. -/
  subformWordIn : Word
  /-- `enc_mnem_in`, a Mnemonic identifier. -/
  mnemIn : BitVec 5
  /-- `enc_swi_imm24`, read only when `enc_mnem_in = 22` (R256). -/
  swiImm24 : BitVec 24
  /-- `enc_undef_word`, read only when `enc_mnem_in = 23` (R256). -/
  undefWord : Word
  /-- `enc_operand_bits`. -/
  operandBits : Word
  deriving DecidableEq, Repr

/-- The decode group's output ports (R30). A value output whose validity condition is false is zero (R31). -/
structure DecodeOutputs where
  condValid : Bool
  condCode : BitVec 4
  classValid : Bool
  classId : BitVec 3
  subformValid : Bool
  subformId : BitVec 4
  subformConflict : Bool
  errCond : Bool
  errClass : Bool
  errSubform : Bool
  mnemId : BitVec 5
  swiImm24 : BitVec 24
  undefWord : Word
  wordOut : Word
  deriving DecidableEq, Repr

/-- The encode group's output ports (R30). -/
structure EncodeOutputs where
  condOut : PortOut 4
  classWordOut : PortOut 32
  subformWordOut : PortOut 32
  wordOut : PortOut 32
  deriving DecidableEq, Repr

/-- The parameters and the ports. The environment drives `decWord` and `encIn`; a step computes the outputs. -/
structure State where
  /-- The elaboration parameters (R6, R7): no step writes them (R24). -/
  params : Params
  /-- `dec_word`, the instruction word on the decode input (R30). -/
  decWord : Word
  /-- The encode group's inputs. -/
  encIn : EncodeInputs
  /-- The decode group's outputs. -/
  decOut : DecodeOutputs
  /-- The encode group's outputs. -/
  encOut : EncodeOutputs
  deriving DecidableEq, Repr

/-- Every encode input at zero. DESIGN CHOICE, unsafe (log 4): the spec gives no value to an input. -/
def EncodeInputs.zero : EncodeInputs :=
  { condIn := 0, classIn := 0, classWordIn := 0, subformIn := 0, subformWordIn := 0, mnemIn := 0, swiImm24 := 0,
    undefWord := 0, operandBits := 0 }

/-- The block after power-up: there is no reset value to state, and every output is the function of the inputs
present then (R33, R330). The inputs are zero (DESIGN CHOICE, log 4) and `CLASS_11X_POLICY` has its default (R6); the
decode outputs are those of the word 0 (table V-E1), the encode outputs those of identifier 0 of each enumeration. -/
def State.reset : State :=
  { params := Params.default
    decWord := 0
    encIn := EncodeInputs.zero
    decOut :=
      { condValid := true, condCode := 0, classValid := true, classId := 0, subformValid := true, subformId := 0,
        subformConflict := false, errCond := false, errClass := false, errSubform := false, mnemId := 0,
        swiImm24 := 0, undefWord := 0, wordOut := 0 }
    encOut :=
      { condOut := .driven 0, classWordOut := .driven 0, subformWordOut := .driven 0,
        wordOut := .driven 0xE0000000 } }

end Sys2Proof.Machine
end

