-- ==== Sys2Proof/Machine/BitField.lean ====
section
/-! DEFINITION. The BitField extractor (40_bitfield.md): read, write and match over ordered lists of bit positions,
most significant intended bit first (R100). -/

namespace Sys2Proof.Machine

/-- A position list is valid when it is non-empty, every position is below 32, and no position repeats (R101). -/
def positionsValid (P : List Nat) : Bool :=
  !P.isEmpty && P.all (· < 32) && decide P.Nodup

/-- The bits of `w` at the positions, the first position giving the most significant bit (R102). -/
def gather (w : Word) : (P : List Nat) → BitVec P.length
  | [] => 0#0
  | p :: ps => BitVec.cons (w.getLsbD p) (gather w ps)

/-- `w` with bit `p` set to `b`. -/
def setBit (w : Word) (p : Nat) (b : Bool) : Word :=
  if b then w ||| (1#32 <<< p) else w &&& ~~~(1#32 <<< p)

/-- `w` with the bits at the positions replaced: position `p_i` of `n` gets bit `n-1-i` of `v` (R103). Bits of `v` at
or above `n` are not read (R105). -/
def scatter (w : Word) (v : Nat) : List Nat → Word
  | [] => w
  | p :: ps => setBit (scatter w v ps) p (v.testBit ps.length)

/-- `bf_read(w, P)` (R102), an `n`-bit value for a list of `n` positions. -/
def bfRead (w : Word) (P : List Nat) : Except Fault (BitVec P.length) :=
  if positionsValid P then .ok (gather w P) else .error (.invalidBitPosition P)

/-- `bf_write(w, v, P)` (R103): a new word; `w` itself is not changed (R11). -/
def bfWrite (w : Word) (v : Nat) (P : List Nat) : Except Fault Word :=
  if positionsValid P then .ok (scatter w v P) else .error (.invalidBitPosition P)

/-- `bf_match(w, P, e)` (R104): compares what is read with `e[n-1:0]`; higher bits of `e` are ignored (R105). -/
def bfMatch (w : Word) (P : List Nat) (e : Nat) : Except Fault Bool :=
  match bfRead w P with
  | .ok v => .ok (v == BitVec.ofNat P.length e)
  | .error r => .error r

/-- The list `[lo+n-1, …, lo]`, which the slice `w[lo+n-1:lo]` abbreviates (R108). -/
def descending (lo : Nat) : Nat → List Nat
  | 0 => []
  | n + 1 => (lo + n) :: descending lo n

/-- `w[lo+n-1:lo] <- v` (R11, R108): bits `lo+n-1` down to `lo` become `v`, every other bit is kept. -/
def putBits {n : Nat} (w : Word) (lo : Nat) (v : BitVec n) : Word :=
  (w &&& ~~~((BitVec.allOnes n).setWidth 32 <<< lo)) ||| (v.setWidth 32 <<< lo)

/-- The constant position lists the block uses (R108): cond, classOp, classOp1, dpOp, dpOp1, dpOp2, dpOpcode,
S and L, B, link, class gate, imm24. -/
def constantLists : List (List Nat) :=
  [descending 28 4, descending 25 3, [4], [25], descending 20 5, descending 4 4, descending 21 4, [20], [22], [24],
    descending 26 2, descending 0 24]

end Sys2Proof.Machine
end

