-- ==== Sys2Proof/Machine/Operands.lean ====
section
/-! DEFINITION. The named fields of a word (30_encoding.md R62, 00_scope.md R15). The block decodes no operand form: no register number,
shift or addressing mode (R65). The Swi immediate is the only immediate it assembles (R64). -/

namespace Sys2Proof.Machine

/-- `cond = w[31:28]`. -/
def condField (w : Word) : BitVec 4 := w.extractLsb' 28 4

/-- `classOp = w[27:25]` (R150). -/
def classOp (w : Word) : BitVec 3 := w.extractLsb' 25 3

/-- `classOp1 = w[4]` (R150). -/
def classOp1 (w : Word) : BitVec 1 := w.extractLsb' 4 1

/-- `w[27:26]`, the class gate of the sub-form disambiguator (R181). -/
def classGate (w : Word) : BitVec 2 := w.extractLsb' 26 2

/-- `dpOp = w[25]` (R180). -/
def dpOp (w : Word) : BitVec 1 := w.extractLsb' 25 1

/-- `dpOp1 = w[24:20]` (R180). -/
def dpOp1 (w : Word) : BitVec 5 := w.extractLsb' 20 5

/-- `dpOp2 = w[7:4]` (R180). -/
def dpOp2 (w : Word) : BitVec 4 := w.extractLsb' 4 4

/-- `dpOpcode = w[24:21]`, the data-processing opcode (R223). -/
def dpOpcode (w : Word) : BitVec 4 := w.extractLsb' 21 4

/-- Bit 20: the S bit of a data-processing word (R222), the L bit of a LoadStore word (R224). -/
def bit20 (w : Word) : BitVec 1 := w.extractLsb' 20 1

/-- Bit 22: the B bit of a LoadStore word (R224). -/
def bit22 (w : Word) : BitVec 1 := w.extractLsb' 22 1

/-- Bit 24: the link bit of a Branch word (R225). -/
def bit24 (w : Word) : BitVec 1 := w.extractLsb' 24 1

/-- `imm24 = w[23:0]`, "copied verbatim, not reinterpreted" (R64, R226). -/
def imm24 (w : Word) : BitVec 24 := w.extractLsb' 0 24

end Sys2Proof.Machine
end

