-- ==== Sys2Proof/Machine/Condition.lean ====
section
/-! DEFINITION. The Condition matcher (41_condition.md). It reads no flag and evaluates no condition (R127). -/

namespace Sys2Proof.Machine

/-- The 4-bit code of a condition, which is also its port identifier (R120, R29). -/
def conditionCode : Condition → BitVec 4
  | .eq => 0b0000#4
  | .ne => 0b0001#4
  | .cs => 0b0010#4
  | .cc => 0b0011#4
  | .mi => 0b0100#4
  | .pl => 0b0101#4
  | .vs => 0b0110#4
  | .vc => 0b0111#4
  | .hi => 0b1000#4
  | .ls => 0b1001#4
  | .ge => 0b1010#4
  | .lt => 0b1011#4
  | .gt => 0b1100#4
  | .le => 0b1101#4
  | .al => 0b1110#4

/-- The variant a code names; 1111 names none and is never mapped to a default (R120, R123). -/
def conditionOfCode (k : BitVec 4) : Option Condition :=
  match k with
  | 0b0000#4 => some .eq
  | 0b0001#4 => some .ne
  | 0b0010#4 => some .cs
  | 0b0011#4 => some .cc
  | 0b0100#4 => some .mi
  | 0b0101#4 => some .pl
  | 0b0110#4 => some .vs
  | 0b0111#4 => some .vc
  | 0b1000#4 => some .hi
  | 0b1001#4 => some .ls
  | 0b1010#4 => some .ge
  | 0b1011#4 => some .lt
  | 0b1100#4 => some .gt
  | 0b1101#4 => some .le
  | 0b1110#4 => some .al
  | _ => none

/-- `decode_condition(w)` (R121): bits 27:0 are never read. -/
def decodeCondition (w : Word) : Option Condition := conditionOfCode (condField w)

/-- `encode_condition(c)` (R122): the code in the low four bits of an 8-bit value whose upper four are zero. -/
def encodeCondition (c : Condition) : BitVec 8 := (conditionCode c).setWidth 8

/-- `enc_cond_out` for the raw input `enc_cond_in` (R122, R125): 1111 names no Condition and is refused. -/
def encodeCondPort (k : BitVec 4) : PortOut 4 :=
  match conditionOfCode k with
  | some c => .driven ((encodeCondition c).extractLsb' 0 4)
  | none => .refused .encCondIn

end Sys2Proof.Machine
end

