-- ==== Sys2Proof/Machine/Flags.lean ====
section
/-! DEFINITION. What the spec says of flags: the block holds none and computes none (10_state.md R23). It reports the
flag-update indicator inside the word (44_mnemonic.md R222) and names conditions without testing them (R127). -/

namespace Sys2Proof.Machine

/-- The four test mnemonics, data-processing opcodes 1000 to 1011, which "always affect flags" (R222). -/
def isTestOpcode (k : BitVec 4) : Bool := k.extractLsb' 2 2 == 0b10#2

/-- When the CONSUMER of a Condition is expected to take it as passed, given its own flags (the informative table of
R127). PRESUMED by the spec (log 12): it is no behaviour of the block, and nothing in the block calls it. -/
def conditionPasses (c : Condition) (n z cy v : Bool) : Bool :=
  match c with
  | .eq => z
  | .ne => !z
  | .cs => cy
  | .cc => !cy
  | .mi => n
  | .pl => !n
  | .vs => v
  | .vc => !v
  | .hi => cy && !z
  | .ls => !cy || z
  | .ge => n == v
  | .lt => n != v
  | .gt => !z && n == v
  | .le => z || n != v
  | .al => true

end Sys2Proof.Machine
end

