-- ==== Sys2Proof/Machine/InstructionClass.lean ====
section
/-! DEFINITION. The InstructionClass classifier (42_class.md). Its table is the source's, not ARM's (90_conflicts C6). -/

namespace Sys2Proof.Machine

/-- The port identifier of a class (R29). -/
def classId : InstructionClass → BitVec 3
  | .dataProcessing => 0
  | .loadStore => 1
  | .loadStoreMultiple => 2
  | .media => 3
  | .branch => 4
  | .supervisorCall => 5

/-- The class an identifier names; 6 and 7 name none (R29, R157). -/
def classOfId (k : BitVec 3) : Option InstructionClass :=
  match k with
  | 0#3 => some .dataProcessing
  | 1#3 => some .loadStore
  | 2#3 => some .loadStoreMultiple
  | 3#3 => some .media
  | 4#3 => some .branch
  | 5#3 => some .supervisorCall
  | _ => none

/-- The classification table (R151) on `classOp` and `classOp1`. -/
def classOfFields (p : Class11xPolicy) (op : BitVec 3) (op1 : BitVec 1) : Option InstructionClass :=
  match op with
  | 0b000#3 => some .dataProcessing
  | 0b001#3 => some .dataProcessing
  | 0b010#3 => some .loadStore
  | 0b011#3 => if op1 = 0 then some .loadStoreMultiple else some .media
  | 0b100#3 => some .branch
  | 0b101#3 => some .branch
  | _ =>
    match p with
    | .supervisorCall => some .supervisorCall
    | .reject => none

/-- `decode_class(w)` (R151): the condition field is not read (R150). -/
def decodeClass (p : Class11xPolicy) (w : Word) : Option InstructionClass :=
  classOfFields p (classOp w) (classOp1 w)

/-- The canonical `classOp` written for a class (R153). -/
def canonicalClassOp : InstructionClass → BitVec 3
  | .dataProcessing => 0b000#3
  | .loadStore => 0b010#3
  | .loadStoreMultiple => 0b011#3
  | .media => 0b011#3
  | .branch => 0b101#3
  | .supervisorCall => 0b111#3

/-- `encode_class(c, w)` (R153): writes bits 27:25, and bit 4 only for the two classes that bit 4 decides. -/
def encodeClass (c : InstructionClass) (w : Word) : Word :=
  let r := putBits w 25 (canonicalClassOp c)
  match c with
  | .loadStoreMultiple => putBits r 4 0#1
  | .media => putBits r 4 1#1
  | .dataProcessing => r
  | .loadStore => r
  | .branch => r
  | .supervisorCall => r

/-- `enc_class_word_out` (R153, R157): identifiers 6 and 7 are refused. -/
def encodeClassPort (k : BitVec 3) (w : Word) : PortOut 32 :=
  match classOfId k with
  | some c => .driven (encodeClass c w)
  | none => .refused .encClassIn

end Sys2Proof.Machine
end

