-- ==== Sys2Proof/Machine/Subform.lean ====
section
/-! DEFINITION. The DataProcessing sub-form disambiguator (43_dp_subform.md). The patterns are those the spec fixes
(R182 to R193, its decision D8; log 14). -/

namespace Sys2Proof.Machine

/-- The port identifier of a sub-form (R29), its place in priority order. -/
def formId : DataProcessingForm → BitVec 4
  | .dataProcessingRegister => 0
  | .dataProcessingRegisterShifted => 1
  | .miscellaneous => 2
  | .halfwordMultiply => 3
  | .multiplyAccumulate => 4
  | .synchronizationPrimitives => 5
  | .extraLoadStore => 6
  | .extraLoadStoreUnprivileged => 7
  | .dataProcessingImmediate => 8
  | .movImmediate16 => 9
  | .movTopImmediate16 => 10
  | .msrImmediateHints => 11

/-- The twelve sub-forms in priority order (R194). -/
def allForms : List DataProcessingForm :=
  [.dataProcessingRegister, .dataProcessingRegisterShifted, .miscellaneous, .halfwordMultiply, .multiplyAccumulate,
    .synchronizationPrimitives, .extraLoadStore, .extraLoadStoreUnprivileged, .dataProcessingImmediate,
    .movImmediate16, .movTopImmediate16, .msrImmediateHints]

/-- The sub-form an identifier names; 12 to 15 name none (R29, R199). -/
def formOfId (k : BitVec 4) : Option DataProcessingForm :=
  match k with
  | 0#4 => some .dataProcessingRegister
  | 1#4 => some .dataProcessingRegisterShifted
  | 2#4 => some .miscellaneous
  | 3#4 => some .halfwordMultiply
  | 4#4 => some .multiplyAccumulate
  | 5#4 => some .synchronizationPrimitives
  | 6#4 => some .extraLoadStore
  | 7#4 => some .extraLoadStoreUnprivileged
  | 8#4 => some .dataProcessingImmediate
  | 9#4 => some .movImmediate16
  | 10#4 => some .movTopImmediate16
  | 11#4 => some .msrImmediateHints
  | _ => none

/-- A digit pattern with `x` digits (R10) as a mask of the fixed digits and their value. -/
def hits {n : Nat} (v mask value : BitVec n) : Bool := v &&& mask == value

/-- `dpOp1` matches `10xx0`: a test opcode with S = 0 (R222), the exclusion of R182, R183 and R190. -/
def testWithoutS (op1 : BitVec 5) : Bool := hits op1 0b11001#5 0b10000#5

/-- `dpOp1` matches `0xx1x`, the exclusion of R188. -/
def unprivilegedOp1 (op1 : BitVec 5) : Bool := hits op1 0b10010#5 0b00010#5

/-- `dpOp2` is `1011` or matches `11x1` (R188, R189). -/
def extraOp2 (op2 : BitVec 4) : Bool := op2 == 0b1011#4 || hits op2 0b1101#4 0b1101#4

/-- The predicate of each sub-form on the key `(dpOp, dpOp1, dpOp2)` (R180, R182 to R193). -/
def formPredicate (f : DataProcessingForm) (op : BitVec 1) (op1 : BitVec 5) (op2 : BitVec 4) : Bool :=
  match f with
  | .dataProcessingRegister => op == 0#1 && !testWithoutS op1 && hits op2 0b0001#4 0b0000#4
  | .dataProcessingRegisterShifted => op == 0#1 && !testWithoutS op1 && hits op2 0b1001#4 0b0001#4
  | .miscellaneous => op == 0#1 && testWithoutS op1 && hits op2 0b1000#4 0b0000#4
  | .halfwordMultiply => op == 0#1 && testWithoutS op1 && hits op2 0b1001#4 0b1000#4
  | .multiplyAccumulate => op == 0#1 && hits op1 0b10000#5 0b00000#5 && op2 == 0b1001#4
  | .synchronizationPrimitives => op == 0#1 && hits op1 0b10000#5 0b10000#5 && op2 == 0b1001#4
  | .extraLoadStore => op == 0#1 && !unprivilegedOp1 op1 && extraOp2 op2
  | .extraLoadStoreUnprivileged => op == 0#1 && unprivilegedOp1 op1 && extraOp2 op2
  | .dataProcessingImmediate => op == 1#1 && !testWithoutS op1
  | .movImmediate16 => op == 1#1 && op1 == 0b10000#5
  | .movTopImmediate16 => op == 1#1 && op1 == 0b10100#5
  | .msrImmediateHints => op == 1#1 && hits op1 0b11011#5 0b10010#5

/-- The sub-forms whose predicate a key satisfies, in priority order. -/
def formsOfKey (op : BitVec 1) (op1 : BitVec 5) (op2 : BitVec 4) : List DataProcessingForm :=
  allForms.filter fun f => formPredicate f op op1 op2

/-- The list `M` of R194: the sub-forms that match a word. Every pattern includes the gate `w[27:26] = 00` (R181). -/
def matchingForms (w : Word) : List DataProcessingForm :=
  if classGate w = 0b00#2 then formsOfKey (dpOp w) (dpOp1 w) (dpOp2 w) else []

/-- `decode_data_processing_subform(w)` (R194): the first match in priority order, `None` outside the gate (R181). -/
def decodeSubform (w : Word) : Option DataProcessingForm := (matchingForms w).head?

/-- `subform_conflict` (R195): more than one predicate matches. -/
def subformConflict (w : Word) : Bool := decide (1 < (matchingForms w).length)

/-- One row of the disjoint table of R194. -/
structure SubformRow where
  mask : Word
  value : Word
  form : DataProcessingForm
  deriving DecidableEq, Repr

/-- The 22 rows of R194, every exclusion expanded into positive rows. -/
def subformRows : List SubformRow :=
  [⟨0x0F000010, 0x00000000, .dataProcessingRegister⟩,
    ⟨0x0F800010, 0x01800000, .dataProcessingRegister⟩,
    ⟨0x0F900010, 0x01100000, .dataProcessingRegister⟩,
    ⟨0x0F000090, 0x00000010, .dataProcessingRegisterShifted⟩,
    ⟨0x0F800090, 0x01800010, .dataProcessingRegisterShifted⟩,
    ⟨0x0F900090, 0x01100010, .dataProcessingRegisterShifted⟩,
    ⟨0x0F900080, 0x01000000, .miscellaneous⟩,
    ⟨0x0F900090, 0x01000080, .halfwordMultiply⟩,
    ⟨0x0F0000F0, 0x00000090, .multiplyAccumulate⟩,
    ⟨0x0F0000F0, 0x01000090, .synchronizationPrimitives⟩,
    ⟨0x0F0000F0, 0x010000B0, .extraLoadStore⟩,
    ⟨0x0F0000D0, 0x010000D0, .extraLoadStore⟩,
    ⟨0x0F2000F0, 0x000000B0, .extraLoadStore⟩,
    ⟨0x0F2000D0, 0x000000D0, .extraLoadStore⟩,
    ⟨0x0F2000F0, 0x002000B0, .extraLoadStoreUnprivileged⟩,
    ⟨0x0F2000D0, 0x002000D0, .extraLoadStoreUnprivileged⟩,
    ⟨0x0F000000, 0x02000000, .dataProcessingImmediate⟩,
    ⟨0x0F800000, 0x03800000, .dataProcessingImmediate⟩,
    ⟨0x0F900000, 0x03100000, .dataProcessingImmediate⟩,
    ⟨0x0FF00000, 0x03000000, .movImmediate16⟩,
    ⟨0x0FF00000, 0x03400000, .movTopImmediate16⟩,
    ⟨0x0FB00000, 0x03200000, .msrImmediateHints⟩]

/-- `EM_f` (R197): the bits a sub-form's pattern occupies. -/
def encodeMask : DataProcessingForm → Word
  | .dataProcessingRegister => 0x02000010
  | .dataProcessingRegisterShifted => 0x02000090
  | .miscellaneous => 0x03900080
  | .halfwordMultiply => 0x03900090
  | .multiplyAccumulate => 0x030000F0
  | .synchronizationPrimitives => 0x030000F0
  | .extraLoadStore => 0x020000F0
  | .extraLoadStoreUnprivileged => 0x032000F0
  | .dataProcessingImmediate => 0x02000000
  | .movImmediate16 => 0x03F00000
  | .movTopImmediate16 => 0x03F00000
  | .msrImmediateHints => 0x03B00000

/-- `EV_f` (R197): the fixed code written there. -/
def encodeValue : DataProcessingForm → Word
  | .dataProcessingRegister => 0x00000000
  | .dataProcessingRegisterShifted => 0x00000010
  | .miscellaneous => 0x01000000
  | .halfwordMultiply => 0x01000080
  | .multiplyAccumulate => 0x00000090
  | .synchronizationPrimitives => 0x01000090
  | .extraLoadStore => 0x000000B0
  | .extraLoadStoreUnprivileged => 0x002000B0
  | .dataProcessingImmediate => 0x02000000
  | .movImmediate16 => 0x03000000
  | .movTopImmediate16 => 0x03400000
  | .msrImmediateHints => 0x03200000

/-- `encode_data_processing_subform(f, w)` (R197): a field overlay, never a full-word overwrite. -/
def encodeSubform (f : DataProcessingForm) (w : Word) : Word := (w &&& ~~~(encodeMask f)) ||| encodeValue f

/-- The exclusion of a sub-form's predicate, which `encodeSubform` does not write (R198). -/
def formExclusion (f : DataProcessingForm) (op1 : BitVec 5) : Bool :=
  match f with
  | .dataProcessingRegister => testWithoutS op1
  | .dataProcessingRegisterShifted => testWithoutS op1
  | .dataProcessingImmediate => testWithoutS op1
  | .extraLoadStore => unprivilegedOp1 op1
  | .miscellaneous => false
  | .halfwordMultiply => false
  | .multiplyAccumulate => false
  | .synchronizationPrimitives => false
  | .extraLoadStoreUnprivileged => false
  | .movImmediate16 => false
  | .movTopImmediate16 => false
  | .msrImmediateHints => false

/-- `enc_subform_word_out` (R197, R199): identifiers 12 to 15 are refused. -/
def encodeSubformPort (k : BitVec 4) (w : Word) : PortOut 32 :=
  match formOfId k with
  | some f => .driven (encodeSubform f w)
  | none => .refused .encSubformIn

end Sys2Proof.Machine
end

