-- ==== Sys2Proof/Machine/Mnemonic.lean ====
section
/-! DEFINITION. The Mnemonic resolver (44_mnemonic.md): `decode_instruction` and `encode_instruction` as the four-level tree of R66. -/

namespace Sys2Proof.Machine

/-- The port identifier of a mnemonic (R29). -/
def mnemonicId : Mnemonic → BitVec 5
  | .and => 0
  | .eor => 1
  | .sub => 2
  | .rsb => 3
  | .add => 4
  | .adc => 5
  | .sbc => 6
  | .rsc => 7
  | .tst => 8
  | .teq => 9
  | .cmp => 10
  | .cmn => 11
  | .orr => 12
  | .mov => 13
  | .bic => 14
  | .mvn => 15
  | .ldr => 16
  | .str => 17
  | .ldrb => 18
  | .strb => 19
  | .b => 20
  | .bl => 21
  | .swi _ => 22
  | .undefined _ => 23

/-- `DP_MNEMONIC[k]` (R223). -/
def dpMnemonic (k : BitVec 4) : Mnemonic :=
  match k with
  | 0b0000#4 => .and
  | 0b0001#4 => .eor
  | 0b0010#4 => .sub
  | 0b0011#4 => .rsb
  | 0b0100#4 => .add
  | 0b0101#4 => .adc
  | 0b0110#4 => .sbc
  | 0b0111#4 => .rsc
  | 0b1000#4 => .tst
  | 0b1001#4 => .teq
  | 0b1010#4 => .cmp
  | 0b1011#4 => .cmn
  | 0b1100#4 => .orr
  | 0b1101#4 => .mov
  | 0b1110#4 => .bic
  | _ => .mvn

/-- `LS_MNEMONIC(L, B)` (R224). -/
def lsMnemonic (l b : BitVec 1) : Mnemonic :=
  if b = 0 then (if l = 1 then .ldr else .str) else (if l = 1 then .ldrb else .strb)

/-- The three sub-forms that the opcode table resolves (R223). -/
def isResolvedForm : DataProcessingForm → Bool
  | .dataProcessingRegister => true
  | .dataProcessingRegisterShifted => true
  | .dataProcessingImmediate => true
  | .miscellaneous => false
  | .halfwordMultiply => false
  | .multiplyAccumulate => false
  | .synchronizationPrimitives => false
  | .extraLoadStore => false
  | .extraLoadStoreUnprivileged => false
  | .movImmediate16 => false
  | .movTopImmediate16 => false
  | .msrImmediateHints => false

/-- `decode_instruction(w)` (R221): total; every failing stage gives `Undefined(w)` with the whole word (R227). -/
def decodeInstruction (p : Class11xPolicy) (w : Word) : Mnemonic :=
  match decodeCondition w with
  | none => .undefined w
  | some _ =>
    match decodeClass p w with
    | none => .undefined w
    | some .dataProcessing =>
      match decodeSubform w with
      | some f => if isResolvedForm f then dpMnemonic (dpOpcode w) else .undefined w
      | none => .undefined w
    | some .loadStore => lsMnemonic (bit20 w) (bit22 w)
    | some .branch => if bit24 w = 1 then .bl else .b
    | some .supervisorCall => .swi (imm24 w)
    | some .loadStoreMultiple => .undefined w
    | some .media => .undefined w

/-- `DP_FORM(ob)` (R229): the form the operand bits select. -/
def dpForm (ob : Word) : DataProcessingForm :=
  if dpOp ob = 1 then .dataProcessingImmediate
  else if classOp1 ob = 1 then .dataProcessingRegisterShifted
  else .dataProcessingRegister

/-- `r[31:28] <- 1110`, the condition every encoded instruction carries (R228). -/
def withAlways (ob : Word) : Word := putBits ob 28 0b1110#4

/-- The data-processing branch of `encode_instruction` for opcode `k` (R228): S is written only for the test
mnemonics, and kept from the operand bits otherwise (R222). -/
def encodeDataProcessing (k : BitVec 4) (ob : Word) : Word :=
  let r := encodeSubform (dpForm ob) (encodeClass .dataProcessing (withAlways ob))
  let r := putBits r 21 k
  if isTestOpcode k then putBits r 20 1#1 else r

/-- The LoadStore branch of `encode_instruction` (R228): writes L and B. -/
def encodeLoadStore (l b : BitVec 1) (ob : Word) : Word :=
  putBits (putBits (encodeClass .loadStore (withAlways ob)) 20 l) 22 b

/-- The Branch branch of `encode_instruction` (R228): writes the link bit. -/
def encodeBranch (link : BitVec 1) (ob : Word) : Word :=
  putBits (encodeClass .branch (withAlways ob)) 24 link

/-- The Swi branch of `encode_instruction` (R228): no bit of the operand bits survives. -/
def encodeSwi (imm : BitVec 24) (ob : Word) : Word :=
  putBits (putBits (encodeClass .supervisorCall (withAlways ob)) 24 1#1) 0 imm

/-- `encode_instruction(m, ob)` (R228; R230 to R253). -/
def encodeInstruction (m : Mnemonic) (ob : Word) : Word :=
  match m with
  | .and => encodeDataProcessing 0b0000#4 ob
  | .eor => encodeDataProcessing 0b0001#4 ob
  | .sub => encodeDataProcessing 0b0010#4 ob
  | .rsb => encodeDataProcessing 0b0011#4 ob
  | .add => encodeDataProcessing 0b0100#4 ob
  | .adc => encodeDataProcessing 0b0101#4 ob
  | .sbc => encodeDataProcessing 0b0110#4 ob
  | .rsc => encodeDataProcessing 0b0111#4 ob
  | .tst => encodeDataProcessing 0b1000#4 ob
  | .teq => encodeDataProcessing 0b1001#4 ob
  | .cmp => encodeDataProcessing 0b1010#4 ob
  | .cmn => encodeDataProcessing 0b1011#4 ob
  | .orr => encodeDataProcessing 0b1100#4 ob
  | .mov => encodeDataProcessing 0b1101#4 ob
  | .bic => encodeDataProcessing 0b1110#4 ob
  | .mvn => encodeDataProcessing 0b1111#4 ob
  | .ldr => encodeLoadStore 1#1 0#1 ob
  | .str => encodeLoadStore 0#1 0#1 ob
  | .ldrb => encodeLoadStore 1#1 1#1 ob
  | .strb => encodeLoadStore 0#1 1#1 ob
  | .b => encodeBranch 0#1 ob
  | .bl => encodeBranch 1#1 ob
  | .swi imm => encodeSwi imm ob
  | .undefined u => u

/-- The bits `encode_instruction` writes (the second table of R228); every other bit is copied from `ob`. -/
def writtenMask (m : Mnemonic) (ob : Word) : Word :=
  match m with
  | .swi _ => 0xFFFFFFFF
  | .undefined _ => 0xFFFFFFFF
  | .b => 0xFF000000
  | .bl => 0xFF000000
  | .ldr => 0xFE500000
  | .str => 0xFE500000
  | .ldrb => 0xFE500000
  | .strb => 0xFE500000
  | .tst => writtenDataProcessing ob ||| 0x00100000
  | .teq => writtenDataProcessing ob ||| 0x00100000
  | .cmp => writtenDataProcessing ob ||| 0x00100000
  | .cmn => writtenDataProcessing ob ||| 0x00100000
  | .and => writtenDataProcessing ob
  | .eor => writtenDataProcessing ob
  | .sub => writtenDataProcessing ob
  | .rsb => writtenDataProcessing ob
  | .add => writtenDataProcessing ob
  | .adc => writtenDataProcessing ob
  | .sbc => writtenDataProcessing ob
  | .rsc => writtenDataProcessing ob
  | .orr => writtenDataProcessing ob
  | .mov => writtenDataProcessing ob
  | .bic => writtenDataProcessing ob
  | .mvn => writtenDataProcessing ob
where
  /-- 31:28, 27:25, 24:21, and bits 7 and 4 as the form has them. -/
  writtenDataProcessing (ob : Word) : Word :=
    if dpOp ob = 1 then 0xFFE00000 else if classOp1 ob = 1 then 0xFFE00090 else 0xFFE00010

/-- The Mnemonic built from `enc_mnem_in` and its payload port (R30, R256); 24 to 31 name none. -/
def mnemonicOfPort (k : BitVec 5) (imm : BitVec 24) (word : Word) : Option Mnemonic :=
  match k with
  | 0#5 => some .and
  | 1#5 => some .eor
  | 2#5 => some .sub
  | 3#5 => some .rsb
  | 4#5 => some .add
  | 5#5 => some .adc
  | 6#5 => some .sbc
  | 7#5 => some .rsc
  | 8#5 => some .tst
  | 9#5 => some .teq
  | 10#5 => some .cmp
  | 11#5 => some .cmn
  | 12#5 => some .orr
  | 13#5 => some .mov
  | 14#5 => some .bic
  | 15#5 => some .mvn
  | 16#5 => some .ldr
  | 17#5 => some .str
  | 18#5 => some .ldrb
  | 19#5 => some .strb
  | 20#5 => some .b
  | 21#5 => some .bl
  | 22#5 => some (.swi imm)
  | 23#5 => some (.undefined word)
  | _ => none

/-- `enc_word_out` (R228, R256). -/
def encodeMnemonicPort (k : BitVec 5) (imm : BitVec 24) (word ob : Word) : PortOut 32 :=
  match mnemonicOfPort k imm word with
  | some m => .driven (encodeInstruction m ob)
  | none => .refused .encMnemIn

/-- The `imm24` a mnemonic carries on `swi_imm24`, zero for every other mnemonic (R31, R255). -/
def mnemonicImm24 : Mnemonic → BitVec 24
  | .swi imm => imm
  | _ => 0

/-- The word `Undefined` carries on `undef_word`, zero for every other mnemonic (R31, R255). -/
def mnemonicWord : Mnemonic → Word
  | .undefined w => w
  | _ => 0

end Sys2Proof.Machine
end

