-- ==== Sys2Proof/WellFormed.lean ====
section
/-! DEFINITION. Which terms of `Instr` stand for a word of the built block. -/

namespace Sys2Proof

/-- The operand types already bound every field (R62, R63), so one check remains: the Swi row exists only under
`CLASS_11X_POLICY = SupervisorCall` (R252; the table's "policy" entry of that row). -/
def Instr.wf (p : Class11xPolicy) : Instr → Bool
  | .andRegister _ _ _ _ => true
  | .eorRegister _ _ _ _ => true
  | .subRegister _ _ _ _ => true
  | .rsbRegister _ _ _ _ => true
  | .addRegister _ _ _ _ => true
  | .adcRegister _ _ _ _ => true
  | .sbcRegister _ _ _ _ => true
  | .rscRegister _ _ _ _ => true
  | .tstRegister _ _ _ => true
  | .teqRegister _ _ _ => true
  | .cmpRegister _ _ _ => true
  | .cmnRegister _ _ _ => true
  | .orrRegister _ _ _ _ => true
  | .movRegister _ _ _ _ => true
  | .bicRegister _ _ _ _ => true
  | .mvnRegister _ _ _ _ => true
  | .andRegisterShifted _ _ _ _ _ => true
  | .eorRegisterShifted _ _ _ _ _ => true
  | .subRegisterShifted _ _ _ _ _ => true
  | .rsbRegisterShifted _ _ _ _ _ => true
  | .addRegisterShifted _ _ _ _ _ => true
  | .adcRegisterShifted _ _ _ _ _ => true
  | .sbcRegisterShifted _ _ _ _ _ => true
  | .rscRegisterShifted _ _ _ _ _ => true
  | .tstRegisterShifted _ _ _ _ => true
  | .teqRegisterShifted _ _ _ _ => true
  | .cmpRegisterShifted _ _ _ _ => true
  | .cmnRegisterShifted _ _ _ _ => true
  | .orrRegisterShifted _ _ _ _ _ => true
  | .movRegisterShifted _ _ _ _ _ => true
  | .bicRegisterShifted _ _ _ _ _ => true
  | .mvnRegisterShifted _ _ _ _ _ => true
  | .andImmediate _ _ _ => true
  | .eorImmediate _ _ _ => true
  | .subImmediate _ _ _ => true
  | .rsbImmediate _ _ _ => true
  | .addImmediate _ _ _ => true
  | .adcImmediate _ _ _ => true
  | .sbcImmediate _ _ _ => true
  | .rscImmediate _ _ _ => true
  | .tstImmediate _ _ => true
  | .teqImmediate _ _ => true
  | .cmpImmediate _ _ => true
  | .cmnImmediate _ _ => true
  | .orrImmediate _ _ _ => true
  | .movImmediate _ _ _ => true
  | .bicImmediate _ _ _ => true
  | .mvnImmediate _ _ _ => true
  | .ldr _ _ _ _ => true
  | .str _ _ _ _ => true
  | .ldrb _ _ _ _ => true
  | .strb _ _ _ _ => true
  | .b _ _ _ => true
  | .bl _ _ _ => true
  | .swi _ _ _ => p == .supervisorCall

end Sys2Proof
end

