-- ==== Sys2Proof/Decode.lean ====
section
/-! DEFINITION. The decoder of a whole instruction with every bit it carries, the encoder beside it, and the opcode
table of the spec as data. The decoder is written field by field from the formats of R63; that it agrees with the
four-level tree `decodeInstruction` and with the table is stated, not assumed. -/

namespace Sys2Proof

open Sys2Proof.Machine

/-! ### Encoder -/

/-- A data-processing word of the register form: cond, 000, opcode, S, bits 19:5, 0, bits 3:0 (R63, R182). -/
def registerWord (c : Condition) (k : BitVec 4) (f : BitVec 1) (hi : BitVec 15) (lo : BitVec 4) : Word :=
  conditionCode c ++ 0b000#3 ++ k ++ f ++ hi ++ 0b0#1 ++ lo

/-- The register-shifted form: cond, 000, opcode, S, bits 19:8, 0, bits 6:5, 1, bits 3:0 (R63, R183). -/
def registerShiftedWord (c : Condition) (k : BitVec 4) (f : BitVec 1) (hi : BitVec 12) (mid : BitVec 2)
    (lo : BitVec 4) : Word :=
  conditionCode c ++ 0b000#3 ++ k ++ f ++ hi ++ 0b0#1 ++ mid ++ 0b1#1 ++ lo

/-- The immediate form: cond, 001, opcode, S, bits 19:0 (R63, R190). -/
def immediateWord (c : Condition) (k : BitVec 4) (f : BitVec 1) (lo : BitVec 20) : Word :=
  conditionCode c ++ 0b001#3 ++ k ++ f ++ lo

/-- A LoadStore word: cond, 010, bits 24:23, B, bit 21, L, bits 19:0 (R63). -/
def loadStoreWord (c : Condition) (l b : BitVec 1) (hi : BitVec 2) (mid : BitVec 1) (lo : BitVec 20) : Word :=
  conditionCode c ++ 0b010#3 ++ hi ++ b ++ mid ++ l ++ lo

/-- A Branch word: cond, 10, bit 25, link, bits 23:0 (R63). -/
def branchWord (c : Condition) (hi : BitVec 1) (link : BitVec 1) (offset : BitVec 24) : Word :=
  conditionCode c ++ 0b10#2 ++ hi ++ link ++ offset

/-- A SupervisorCall word: cond, 11, bits 25:24, imm24 (R63). -/
def swiWord (c : Condition) (hi : BitVec 2) (imm : BitVec 24) : Word :=
  conditionCode c ++ 0b11#2 ++ hi ++ imm

/-- The word of an instruction, each row from its encoding (R230 to R252). -/
def encode : Instr → Word
  | .andRegister c f hi lo => registerWord c 0b0000#4 f hi lo
  | .eorRegister c f hi lo => registerWord c 0b0001#4 f hi lo
  | .subRegister c f hi lo => registerWord c 0b0010#4 f hi lo
  | .rsbRegister c f hi lo => registerWord c 0b0011#4 f hi lo
  | .addRegister c f hi lo => registerWord c 0b0100#4 f hi lo
  | .adcRegister c f hi lo => registerWord c 0b0101#4 f hi lo
  | .sbcRegister c f hi lo => registerWord c 0b0110#4 f hi lo
  | .rscRegister c f hi lo => registerWord c 0b0111#4 f hi lo
  | .tstRegister c hi lo => registerWord c 0b1000#4 1#1 hi lo
  | .teqRegister c hi lo => registerWord c 0b1001#4 1#1 hi lo
  | .cmpRegister c hi lo => registerWord c 0b1010#4 1#1 hi lo
  | .cmnRegister c hi lo => registerWord c 0b1011#4 1#1 hi lo
  | .orrRegister c f hi lo => registerWord c 0b1100#4 f hi lo
  | .movRegister c f hi lo => registerWord c 0b1101#4 f hi lo
  | .bicRegister c f hi lo => registerWord c 0b1110#4 f hi lo
  | .mvnRegister c f hi lo => registerWord c 0b1111#4 f hi lo
  | .andRegisterShifted c f hi mid lo => registerShiftedWord c 0b0000#4 f hi mid lo
  | .eorRegisterShifted c f hi mid lo => registerShiftedWord c 0b0001#4 f hi mid lo
  | .subRegisterShifted c f hi mid lo => registerShiftedWord c 0b0010#4 f hi mid lo
  | .rsbRegisterShifted c f hi mid lo => registerShiftedWord c 0b0011#4 f hi mid lo
  | .addRegisterShifted c f hi mid lo => registerShiftedWord c 0b0100#4 f hi mid lo
  | .adcRegisterShifted c f hi mid lo => registerShiftedWord c 0b0101#4 f hi mid lo
  | .sbcRegisterShifted c f hi mid lo => registerShiftedWord c 0b0110#4 f hi mid lo
  | .rscRegisterShifted c f hi mid lo => registerShiftedWord c 0b0111#4 f hi mid lo
  | .tstRegisterShifted c hi mid lo => registerShiftedWord c 0b1000#4 1#1 hi mid lo
  | .teqRegisterShifted c hi mid lo => registerShiftedWord c 0b1001#4 1#1 hi mid lo
  | .cmpRegisterShifted c hi mid lo => registerShiftedWord c 0b1010#4 1#1 hi mid lo
  | .cmnRegisterShifted c hi mid lo => registerShiftedWord c 0b1011#4 1#1 hi mid lo
  | .orrRegisterShifted c f hi mid lo => registerShiftedWord c 0b1100#4 f hi mid lo
  | .movRegisterShifted c f hi mid lo => registerShiftedWord c 0b1101#4 f hi mid lo
  | .bicRegisterShifted c f hi mid lo => registerShiftedWord c 0b1110#4 f hi mid lo
  | .mvnRegisterShifted c f hi mid lo => registerShiftedWord c 0b1111#4 f hi mid lo
  | .andImmediate c f lo => immediateWord c 0b0000#4 f lo
  | .eorImmediate c f lo => immediateWord c 0b0001#4 f lo
  | .subImmediate c f lo => immediateWord c 0b0010#4 f lo
  | .rsbImmediate c f lo => immediateWord c 0b0011#4 f lo
  | .addImmediate c f lo => immediateWord c 0b0100#4 f lo
  | .adcImmediate c f lo => immediateWord c 0b0101#4 f lo
  | .sbcImmediate c f lo => immediateWord c 0b0110#4 f lo
  | .rscImmediate c f lo => immediateWord c 0b0111#4 f lo
  | .tstImmediate c lo => immediateWord c 0b1000#4 1#1 lo
  | .teqImmediate c lo => immediateWord c 0b1001#4 1#1 lo
  | .cmpImmediate c lo => immediateWord c 0b1010#4 1#1 lo
  | .cmnImmediate c lo => immediateWord c 0b1011#4 1#1 lo
  | .orrImmediate c f lo => immediateWord c 0b1100#4 f lo
  | .movImmediate c f lo => immediateWord c 0b1101#4 f lo
  | .bicImmediate c f lo => immediateWord c 0b1110#4 f lo
  | .mvnImmediate c f lo => immediateWord c 0b1111#4 f lo
  | .ldr c hi mid lo => loadStoreWord c 1#1 0#1 hi mid lo
  | .str c hi mid lo => loadStoreWord c 0#1 0#1 hi mid lo
  | .ldrb c hi mid lo => loadStoreWord c 1#1 1#1 hi mid lo
  | .strb c hi mid lo => loadStoreWord c 0#1 1#1 hi mid lo
  | .b c hi offset => branchWord c hi 0#1 offset
  | .bl c hi offset => branchWord c hi 1#1 offset
  | .swi c hi imm => swiWord c hi imm

/-- The Mnemonic an instruction resolves to (R220). -/
def instrMnemonic : Instr → Mnemonic
  | .andRegister _ _ _ _ => .and
  | .eorRegister _ _ _ _ => .eor
  | .subRegister _ _ _ _ => .sub
  | .rsbRegister _ _ _ _ => .rsb
  | .addRegister _ _ _ _ => .add
  | .adcRegister _ _ _ _ => .adc
  | .sbcRegister _ _ _ _ => .sbc
  | .rscRegister _ _ _ _ => .rsc
  | .tstRegister _ _ _ => .tst
  | .teqRegister _ _ _ => .teq
  | .cmpRegister _ _ _ => .cmp
  | .cmnRegister _ _ _ => .cmn
  | .orrRegister _ _ _ _ => .orr
  | .movRegister _ _ _ _ => .mov
  | .bicRegister _ _ _ _ => .bic
  | .mvnRegister _ _ _ _ => .mvn
  | .andRegisterShifted _ _ _ _ _ => .and
  | .eorRegisterShifted _ _ _ _ _ => .eor
  | .subRegisterShifted _ _ _ _ _ => .sub
  | .rsbRegisterShifted _ _ _ _ _ => .rsb
  | .addRegisterShifted _ _ _ _ _ => .add
  | .adcRegisterShifted _ _ _ _ _ => .adc
  | .sbcRegisterShifted _ _ _ _ _ => .sbc
  | .rscRegisterShifted _ _ _ _ _ => .rsc
  | .tstRegisterShifted _ _ _ _ => .tst
  | .teqRegisterShifted _ _ _ _ => .teq
  | .cmpRegisterShifted _ _ _ _ => .cmp
  | .cmnRegisterShifted _ _ _ _ => .cmn
  | .orrRegisterShifted _ _ _ _ _ => .orr
  | .movRegisterShifted _ _ _ _ _ => .mov
  | .bicRegisterShifted _ _ _ _ _ => .bic
  | .mvnRegisterShifted _ _ _ _ _ => .mvn
  | .andImmediate _ _ _ => .and
  | .eorImmediate _ _ _ => .eor
  | .subImmediate _ _ _ => .sub
  | .rsbImmediate _ _ _ => .rsb
  | .addImmediate _ _ _ => .add
  | .adcImmediate _ _ _ => .adc
  | .sbcImmediate _ _ _ => .sbc
  | .rscImmediate _ _ _ => .rsc
  | .tstImmediate _ _ => .tst
  | .teqImmediate _ _ => .teq
  | .cmpImmediate _ _ => .cmp
  | .cmnImmediate _ _ => .cmn
  | .orrImmediate _ _ _ => .orr
  | .movImmediate _ _ _ => .mov
  | .bicImmediate _ _ _ => .bic
  | .mvnImmediate _ _ _ => .mvn
  | .ldr _ _ _ _ => .ldr
  | .str _ _ _ _ => .str
  | .ldrb _ _ _ _ => .ldrb
  | .strb _ _ _ _ => .strb
  | .b _ _ _ => .b
  | .bl _ _ _ => .bl
  | .swi _ _ imm => .swi imm

/-- The condition an instruction carries (R120). -/
def instrCondition : Instr → Condition
  | .andRegister c _ _ _ => c
  | .eorRegister c _ _ _ => c
  | .subRegister c _ _ _ => c
  | .rsbRegister c _ _ _ => c
  | .addRegister c _ _ _ => c
  | .adcRegister c _ _ _ => c
  | .sbcRegister c _ _ _ => c
  | .rscRegister c _ _ _ => c
  | .tstRegister c _ _ => c
  | .teqRegister c _ _ => c
  | .cmpRegister c _ _ => c
  | .cmnRegister c _ _ => c
  | .orrRegister c _ _ _ => c
  | .movRegister c _ _ _ => c
  | .bicRegister c _ _ _ => c
  | .mvnRegister c _ _ _ => c
  | .andRegisterShifted c _ _ _ _ => c
  | .eorRegisterShifted c _ _ _ _ => c
  | .subRegisterShifted c _ _ _ _ => c
  | .rsbRegisterShifted c _ _ _ _ => c
  | .addRegisterShifted c _ _ _ _ => c
  | .adcRegisterShifted c _ _ _ _ => c
  | .sbcRegisterShifted c _ _ _ _ => c
  | .rscRegisterShifted c _ _ _ _ => c
  | .tstRegisterShifted c _ _ _ => c
  | .teqRegisterShifted c _ _ _ => c
  | .cmpRegisterShifted c _ _ _ => c
  | .cmnRegisterShifted c _ _ _ => c
  | .orrRegisterShifted c _ _ _ _ => c
  | .movRegisterShifted c _ _ _ _ => c
  | .bicRegisterShifted c _ _ _ _ => c
  | .mvnRegisterShifted c _ _ _ _ => c
  | .andImmediate c _ _ => c
  | .eorImmediate c _ _ => c
  | .subImmediate c _ _ => c
  | .rsbImmediate c _ _ => c
  | .addImmediate c _ _ => c
  | .adcImmediate c _ _ => c
  | .sbcImmediate c _ _ => c
  | .rscImmediate c _ _ => c
  | .tstImmediate c _ => c
  | .teqImmediate c _ => c
  | .cmpImmediate c _ => c
  | .cmnImmediate c _ => c
  | .orrImmediate c _ _ => c
  | .movImmediate c _ _ => c
  | .bicImmediate c _ _ => c
  | .mvnImmediate c _ _ => c
  | .ldr c _ _ _ => c
  | .str c _ _ _ => c
  | .ldrb c _ _ _ => c
  | .strb c _ _ _ => c
  | .b c _ _ => c
  | .bl c _ _ => c
  | .swi c _ _ => c

/-! ### Decoder -/

/-- Why a word, or a run of bytes, stands for no instruction: the cases of R227, by name, and a fetch that holds less
than one word. Each word rejected here is the mnemonic `Undefined(word)` for the block, not an error (R253). -/
inductive DecodeReject where
  /-- R227 (a): condition 1111. -/
  | unrecognizedCondition
  /-- R227 (b): class code 110 or 111 under `CLASS_11X_POLICY = Reject`. -/
  | unrecognizedClass
  /-- R227 (c): a DataProcessing word of one of the nine sub-forms without a mnemonic. -/
  | unresolvedSubform
  /-- R227 (d). -/
  | loadStoreMultiple
  /-- R227 (e). -/
  | media
  /-- Fewer than four bytes: a decoder always consumes one whole word (R60; log 13). -/
  | truncated
  deriving DecidableEq, Repr

/-- The Register row of data-processing opcode `k` (R223, R182). -/
def registerInstr (c : Condition) (k : BitVec 4) (f : BitVec 1) (hi : BitVec 15) (lo : BitVec 4) : Instr :=
  match k with
  | 0b0000#4 => .andRegister c f hi lo
  | 0b0001#4 => .eorRegister c f hi lo
  | 0b0010#4 => .subRegister c f hi lo
  | 0b0011#4 => .rsbRegister c f hi lo
  | 0b0100#4 => .addRegister c f hi lo
  | 0b0101#4 => .adcRegister c f hi lo
  | 0b0110#4 => .sbcRegister c f hi lo
  | 0b0111#4 => .rscRegister c f hi lo
  | 0b1000#4 => .tstRegister c hi lo
  | 0b1001#4 => .teqRegister c hi lo
  | 0b1010#4 => .cmpRegister c hi lo
  | 0b1011#4 => .cmnRegister c hi lo
  | 0b1100#4 => .orrRegister c f hi lo
  | 0b1101#4 => .movRegister c f hi lo
  | 0b1110#4 => .bicRegister c f hi lo
  | _ => .mvnRegister c f hi lo

/-- The RegisterShifted row of data-processing opcode `k` (R223, R183). -/
def registerShiftedInstr (c : Condition) (k : BitVec 4) (f : BitVec 1) (hi : BitVec 12) (mid : BitVec 2) (lo : BitVec 4) : Instr :=
  match k with
  | 0b0000#4 => .andRegisterShifted c f hi mid lo
  | 0b0001#4 => .eorRegisterShifted c f hi mid lo
  | 0b0010#4 => .subRegisterShifted c f hi mid lo
  | 0b0011#4 => .rsbRegisterShifted c f hi mid lo
  | 0b0100#4 => .addRegisterShifted c f hi mid lo
  | 0b0101#4 => .adcRegisterShifted c f hi mid lo
  | 0b0110#4 => .sbcRegisterShifted c f hi mid lo
  | 0b0111#4 => .rscRegisterShifted c f hi mid lo
  | 0b1000#4 => .tstRegisterShifted c hi mid lo
  | 0b1001#4 => .teqRegisterShifted c hi mid lo
  | 0b1010#4 => .cmpRegisterShifted c hi mid lo
  | 0b1011#4 => .cmnRegisterShifted c hi mid lo
  | 0b1100#4 => .orrRegisterShifted c f hi mid lo
  | 0b1101#4 => .movRegisterShifted c f hi mid lo
  | 0b1110#4 => .bicRegisterShifted c f hi mid lo
  | _ => .mvnRegisterShifted c f hi mid lo

/-- The Immediate row of data-processing opcode `k` (R223, R190). -/
def immediateInstr (c : Condition) (k : BitVec 4) (f : BitVec 1) (lo : BitVec 20) : Instr :=
  match k with
  | 0b0000#4 => .andImmediate c f lo
  | 0b0001#4 => .eorImmediate c f lo
  | 0b0010#4 => .subImmediate c f lo
  | 0b0011#4 => .rsbImmediate c f lo
  | 0b0100#4 => .addImmediate c f lo
  | 0b0101#4 => .adcImmediate c f lo
  | 0b0110#4 => .sbcImmediate c f lo
  | 0b0111#4 => .rscImmediate c f lo
  | 0b1000#4 => .tstImmediate c lo
  | 0b1001#4 => .teqImmediate c lo
  | 0b1010#4 => .cmpImmediate c lo
  | 0b1011#4 => .cmnImmediate c lo
  | 0b1100#4 => .orrImmediate c f lo
  | 0b1101#4 => .movImmediate c f lo
  | 0b1110#4 => .bicImmediate c f lo
  | _ => .mvnImmediate c f lo

/-- The DataProcessing branch: the three forms with a mnemonic, and never a test opcode with S = 0, whose `dpOp1`
is 10xx0 (R182, R183, R190, R222). -/
def decodeDataProcessing (c : Condition) (w : Word) : Except DecodeReject Instr :=
  if isTestOpcode (dpOpcode w) && bit20 w == 0#1 then .error .unresolvedSubform
  else if dpOp w = 1 then .ok (immediateInstr c (dpOpcode w) (bit20 w) (w.extractLsb' 0 20))
  else if classOp1 w = 0 then
    .ok (registerInstr c (dpOpcode w) (bit20 w) (w.extractLsb' 5 15) (w.extractLsb' 0 4))
  else if w.extractLsb' 7 1 = 0#1 then
    .ok (registerShiftedInstr c (dpOpcode w) (bit20 w) (w.extractLsb' 8 12) (w.extractLsb' 5 2) (w.extractLsb' 0 4))
  else .error .unresolvedSubform

/-- The LoadStore branch (R224, R246 to R249). -/
def decodeLoadStore (c : Condition) (w : Word) : Instr :=
  let hi : BitVec 2 := w.extractLsb' 23 2
  let mid : BitVec 1 := w.extractLsb' 21 1
  let lo : BitVec 20 := w.extractLsb' 0 20
  if bit22 w = 0 then
    if bit20 w = 1 then .ldr c hi mid lo else .str c hi mid lo
  else
    if bit20 w = 1 then .ldrb c hi mid lo else .strb c hi mid lo

/-- The Branch branch (R225, R250, R251). -/
def decodeBranch (c : Condition) (w : Word) : Instr :=
  if bit24 w = 1 then .bl c (dpOp w) (imm24 w) else .b c (dpOp w) (imm24 w)

/-- The instruction a word stands for under a policy, with every bit it carries; a rejection by name for every other
word (R227). -/
def decode (p : Class11xPolicy) (w : Word) : Except DecodeReject Instr :=
  match conditionOfCode (condField w) with
  | none => .error .unrecognizedCondition
  | some c =>
    match classGate w with
    | 0b00#2 => decodeDataProcessing c w
    | 0b01#2 =>
      if dpOp w = 0 then .ok (decodeLoadStore c w)
      else if classOp1 w = 0 then .error .loadStoreMultiple
      else .error .media
    | 0b10#2 => .ok (decodeBranch c w)
    | _ =>
      match p with
      | .supervisorCall => .ok (.swi c (w.extractLsb' 24 2) (imm24 w))
      | .reject => .error .unrecognizedClass

/-- The word a fetch unit builds from four bytes at rising addresses, in the byte order of the surrounding system
(R7, R41). PRESUMED (log 2). -/
def wordOfBytes (o : FetchByteOrder) (b0 b1 b2 b3 : Byte) : Word :=
  match o with
  | .littleEndian => b3 ++ b2 ++ b1 ++ b0
  | .bigEndian => b0 ++ b1 ++ b2 ++ b3

/-- Decoding a run of bytes: one whole word is consumed (R60), the rest is handed back. Total on any bytes. -/
def decodeBytes (p : Class11xPolicy) (o : FetchByteOrder) : List Byte → Except DecodeReject (Instr × List Byte)
  | b0 :: b1 :: b2 :: b3 :: rest =>
    match decode p (wordOfBytes o b0 b1 b2 b3) with
    | .ok i => .ok (i, rest)
    | .error r => .error r
  | _ => .error .truncated

/-- The host's question: the instruction the decoder reads from the word `w` of `nbits` bits, under the default
policy (R6). The block takes a word whole (R41), so no byte order enters. -/
def decodeTableWord (nbits w : Nat) : Option Instr :=
  match decode Params.default.class11xPolicy (BitVec.ofNat 32 (w % 2 ^ nbits)) with
  | .ok i => some i
  | .error _ => none

/-! ### The opcode table -/

/-- One row of spec/opcode_table.json (R67): the mnemonic's identifier, the sub-form of a data-processing row, mask
and match. Every row also excludes condition 1111. -/
structure OpcodeRow where
  id : BitVec 5
  form : Option DataProcessingForm
  mask : Word
  value : Word
  deriving DecidableEq, Repr

/-- The word matches the row: mask and match, the condition exclusion, and, for the Swi row, the policy under which
the row exists (R67). -/
def OpcodeRow.matchesWord (r : OpcodeRow) (p : Class11xPolicy) (w : Word) : Bool :=
  w &&& r.mask == r.value && w &&& 0xF0000000 != 0xF0000000 && (r.id != 22 || p == .supervisorCall)

/-- Rows of the opcode table (format DataProcessingRegister). -/
def registerRows : List OpcodeRow :=
  [⟨0, some .dataProcessingRegister, 0x0FE00010, 0x00000000⟩,
    ⟨1, some .dataProcessingRegister, 0x0FE00010, 0x00200000⟩,
    ⟨2, some .dataProcessingRegister, 0x0FE00010, 0x00400000⟩,
    ⟨3, some .dataProcessingRegister, 0x0FE00010, 0x00600000⟩,
    ⟨4, some .dataProcessingRegister, 0x0FE00010, 0x00800000⟩,
    ⟨5, some .dataProcessingRegister, 0x0FE00010, 0x00A00000⟩,
    ⟨6, some .dataProcessingRegister, 0x0FE00010, 0x00C00000⟩,
    ⟨7, some .dataProcessingRegister, 0x0FE00010, 0x00E00000⟩,
    ⟨8, some .dataProcessingRegister, 0x0FF00010, 0x01100000⟩,
    ⟨9, some .dataProcessingRegister, 0x0FF00010, 0x01300000⟩,
    ⟨10, some .dataProcessingRegister, 0x0FF00010, 0x01500000⟩,
    ⟨11, some .dataProcessingRegister, 0x0FF00010, 0x01700000⟩,
    ⟨12, some .dataProcessingRegister, 0x0FE00010, 0x01800000⟩,
    ⟨13, some .dataProcessingRegister, 0x0FE00010, 0x01A00000⟩,
    ⟨14, some .dataProcessingRegister, 0x0FE00010, 0x01C00000⟩,
    ⟨15, some .dataProcessingRegister, 0x0FE00010, 0x01E00000⟩]

/-- Rows of the opcode table (format DataProcessingRegisterShifted). -/
def registerShiftedRows : List OpcodeRow :=
  [⟨0, some .dataProcessingRegisterShifted, 0x0FE00090, 0x00000010⟩,
    ⟨1, some .dataProcessingRegisterShifted, 0x0FE00090, 0x00200010⟩,
    ⟨2, some .dataProcessingRegisterShifted, 0x0FE00090, 0x00400010⟩,
    ⟨3, some .dataProcessingRegisterShifted, 0x0FE00090, 0x00600010⟩,
    ⟨4, some .dataProcessingRegisterShifted, 0x0FE00090, 0x00800010⟩,
    ⟨5, some .dataProcessingRegisterShifted, 0x0FE00090, 0x00A00010⟩,
    ⟨6, some .dataProcessingRegisterShifted, 0x0FE00090, 0x00C00010⟩,
    ⟨7, some .dataProcessingRegisterShifted, 0x0FE00090, 0x00E00010⟩,
    ⟨8, some .dataProcessingRegisterShifted, 0x0FF00090, 0x01100010⟩,
    ⟨9, some .dataProcessingRegisterShifted, 0x0FF00090, 0x01300010⟩,
    ⟨10, some .dataProcessingRegisterShifted, 0x0FF00090, 0x01500010⟩,
    ⟨11, some .dataProcessingRegisterShifted, 0x0FF00090, 0x01700010⟩,
    ⟨12, some .dataProcessingRegisterShifted, 0x0FE00090, 0x01800010⟩,
    ⟨13, some .dataProcessingRegisterShifted, 0x0FE00090, 0x01A00010⟩,
    ⟨14, some .dataProcessingRegisterShifted, 0x0FE00090, 0x01C00010⟩,
    ⟨15, some .dataProcessingRegisterShifted, 0x0FE00090, 0x01E00010⟩]

/-- Rows of the opcode table (format DataProcessingImmediate). -/
def immediateRows : List OpcodeRow :=
  [⟨0, some .dataProcessingImmediate, 0x0FE00000, 0x02000000⟩,
    ⟨1, some .dataProcessingImmediate, 0x0FE00000, 0x02200000⟩,
    ⟨2, some .dataProcessingImmediate, 0x0FE00000, 0x02400000⟩,
    ⟨3, some .dataProcessingImmediate, 0x0FE00000, 0x02600000⟩,
    ⟨4, some .dataProcessingImmediate, 0x0FE00000, 0x02800000⟩,
    ⟨5, some .dataProcessingImmediate, 0x0FE00000, 0x02A00000⟩,
    ⟨6, some .dataProcessingImmediate, 0x0FE00000, 0x02C00000⟩,
    ⟨7, some .dataProcessingImmediate, 0x0FE00000, 0x02E00000⟩,
    ⟨8, some .dataProcessingImmediate, 0x0FF00000, 0x03100000⟩,
    ⟨9, some .dataProcessingImmediate, 0x0FF00000, 0x03300000⟩,
    ⟨10, some .dataProcessingImmediate, 0x0FF00000, 0x03500000⟩,
    ⟨11, some .dataProcessingImmediate, 0x0FF00000, 0x03700000⟩,
    ⟨12, some .dataProcessingImmediate, 0x0FE00000, 0x03800000⟩,
    ⟨13, some .dataProcessingImmediate, 0x0FE00000, 0x03A00000⟩,
    ⟨14, some .dataProcessingImmediate, 0x0FE00000, 0x03C00000⟩,
    ⟨15, some .dataProcessingImmediate, 0x0FE00000, 0x03E00000⟩]

/-- Rows of the opcode table (the LoadStore, Branch and SupervisorCall formats). -/
def otherRows : List OpcodeRow :=
  [⟨16, none, 0x0E500000, 0x04100000⟩,
    ⟨17, none, 0x0E500000, 0x04000000⟩,
    ⟨18, none, 0x0E500000, 0x04500000⟩,
    ⟨19, none, 0x0E500000, 0x04400000⟩,
    ⟨20, none, 0x0D000000, 0x08000000⟩,
    ⟨21, none, 0x0D000000, 0x09000000⟩,
    ⟨22, none, 0x0C000000, 0x0C000000⟩]

/-- The 55 rows of spec/opcode_table.json. -/
def opcodeTable : List OpcodeRow := registerRows ++ registerShiftedRows ++ immediateRows ++ otherRows

end Sys2Proof
end

