-- ==== Sys2Proof/Machine/Ops.lean ====
section
/-! DEFINITION. The shared operations: what each port group computes from its inputs (10_state.md R30, R31), and the
one way a step ends. No exception is taken anywhere: the block has no trap mechanism, no saved state, no mode and no
vector (60_exceptions.md R308), so there is no exception entry and no return to define. -/

namespace Sys2Proof.Machine

/-- The decode group's outputs for a word, given what the condition, class and mnemonic stages found. The sub-form
ports are functions of the word, and every value output is zero where its validity condition is false (R30, R31).
The errors are computed independently of each other (R306): `err_cond` (R124), `err_class` (R155), and
`err_subform`, which only a word with `w[27:26] = 00` can raise (R200, R303). -/
def drivenOutputs (w : Word) (c : Option Condition) (k : Option InstructionClass) (f : Option DataProcessingForm)
    (m : Mnemonic) : DecodeOutputs :=
  { condValid := c.isSome
    condCode := (c.map conditionCode).getD 0
    classValid := k.isSome
    classId := (k.map classId).getD 0
    subformValid := f.isSome
    subformId := (f.map formId).getD 0
    subformConflict := subformConflict w
    errCond := !c.isSome
    errClass := !k.isSome
    errSubform := classGate w == 0b00#2 && !f.isSome
    mnemId := mnemonicId m
    swiImm24 := mnemonicImm24 m
    undefWord := mnemonicWord m
    wordOut := w }

/-- `drivenOutputs` with the sub-form the disambiguator finds in the word (R194). -/
def decodeOutputs (w : Word) (c : Option Condition) (k : Option InstructionClass) (m : Mnemonic) : DecodeOutputs :=
  drivenOutputs w c k (decodeSubform w) m

/-- The decode port group as a function of `dec_word` alone (R30): each output is the function of §6 named beside it. -/
def decodeGroup (p : Class11xPolicy) (w : Word) : DecodeOutputs :=
  decodeOutputs w (decodeCondition w) (decodeClass p w) (decodeInstruction p w)

/-- The encode port group as a function of its own inputs (R30, R305). -/
def encodeGroup (e : EncodeInputs) : EncodeOutputs :=
  { condOut := encodeCondPort e.condIn
    classWordOut := encodeClassPort e.classIn e.classWordIn
    subformWordOut := encodeSubformPort e.subformIn e.subformWordIn
    wordOut := encodeMnemonicPort e.mnemIn e.swiImm24 e.undefWord e.operandBits }

/-- The state after one evaluation: the decode outputs are `d`, the encode outputs those of the encode inputs, and no
parameter or input changes (R24, R336). -/
def State.settle (s : State) (d : DecodeOutputs) : State :=
  { s with decOut := d, encOut := encodeGroup s.encIn }

/-- The one way a resolved instruction ends: the block reports its condition, class, sub-form and mnemonic, and passes
its word out unchanged (R30). The machine goes on; nothing is fetched, executed or trapped (R4, R308). -/
def State.resolve (s : State) (c : Condition) (k : InstructionClass) (f : Option DataProcessingForm) (m : Mnemonic)
    (w : Word) : Host.Outcome State Fault Refusal :=
  .next (s.settle (drivenOutputs w (some c) (some k) f m))

/-! ### What the outside world drives -/

/-- The consumer drives `dec_word`; outputs keep their old values until the next evaluation. -/
def State.driveDecWord (s : State) (w : Word) : State := { s with decWord := w }

/-- A fetch unit builds `dec_word` from four bytes in the surrounding system's byte order (R7, R41; log 2). -/
def State.driveFetchBytes (s : State) (b0 b1 b2 b3 : Byte) : State :=
  s.driveDecWord (wordOfBytes s.params.fetchByteOrder b0 b1 b2 b3)

/-- The consumer drives the encode inputs. -/
def State.driveEncode (s : State) (e : EncodeInputs) : State := { s with encIn := e }

/-! ### The error taxonomy -/

/-- The four error kinds the source names (R300). -/
inductive ErrorKind where
  | unrecognizedCondition
  | unrecognizedClass
  | unrecognizedSubform
  | invalidBitPosition
  deriving DecidableEq, Repr

/-- The identifiers 1 to 4 the spec gives them (R300). -/
def errorId : ErrorKind → Nat
  | .unrecognizedCondition => 1
  | .unrecognizedClass => 2
  | .unrecognizedSubform => 3
  | .invalidBitPosition => 4

/-- The error kind of a fault: `InvalidBitPosition` is the only fault (R300, R304). -/
def faultKind : Fault → ErrorKind
  | .invalidBitPosition _ => .invalidBitPosition

/-- The single error a model reports when several outputs are set: the first in decode order (R306). -/
def singleError (d : DecodeOutputs) : Option ErrorKind :=
  if d.errCond then some .unrecognizedCondition
  else if d.errClass then some .unrecognizedClass
  else if d.errSubform then some .unrecognizedSubform
  else none

end Sys2Proof.Machine
end

