-- ==== Sys2Proof/Machine/Branch.lean ====
section
/-! DEFINITION. B and Bl (R225). The block computes no target and writes no link register (R22). -/

namespace Sys2Proof.Machine

/-- `B` (R250): link bit 0; both class codes, bit 25 = `hi` (R225). -/
def execB (c : Condition) (hi : BitVec 1) (offset : BitVec 24) (s : State) : Host.Outcome State Fault Refusal :=
  s.resolve c .branch none .b (branchWord c hi 0#1 offset)

/-- `Bl` (R251): link bit 1; both class codes, bit 25 = `hi` (R225). -/
def execBl (c : Condition) (hi : BitVec 1) (offset : BitVec 24) (s : State) : Host.Outcome State Fault Refusal :=
  s.resolve c .branch none .bl (branchWord c hi 1#1 offset)

end Sys2Proof.Machine
end

