-- ==== Sys2Proof/Machine/DataProcessingImmediate.lean ====
section
/-! DEFINITION. The sixteen data-processing instructions in the immediate form (sub-form DataProcessingImmediate, R190). The meaning of each is what
the block reports for it: no ALU result and no flag is computed (R4, R23). -/

namespace Sys2Proof.Machine

/-- `And` (R230): opcode 0000; S is free and reported in the word (R222). -/
def execAndImmediate (c : Condition) (f : BitVec 1) (lo : BitVec 20) (s : State) :
    Host.Outcome State Fault Refusal :=
  s.resolve c .dataProcessing (some .dataProcessingImmediate) .and (immediateWord c 0b0000#4 f lo)

/-- `Eor` (R231): opcode 0001; S is free and reported in the word (R222). -/
def execEorImmediate (c : Condition) (f : BitVec 1) (lo : BitVec 20) (s : State) :
    Host.Outcome State Fault Refusal :=
  s.resolve c .dataProcessing (some .dataProcessingImmediate) .eor (immediateWord c 0b0001#4 f lo)

/-- `Sub` (R232): opcode 0010; S is free and reported in the word (R222). -/
def execSubImmediate (c : Condition) (f : BitVec 1) (lo : BitVec 20) (s : State) :
    Host.Outcome State Fault Refusal :=
  s.resolve c .dataProcessing (some .dataProcessingImmediate) .sub (immediateWord c 0b0010#4 f lo)

/-- `Rsb` (R233): opcode 0011; S is free and reported in the word (R222). -/
def execRsbImmediate (c : Condition) (f : BitVec 1) (lo : BitVec 20) (s : State) :
    Host.Outcome State Fault Refusal :=
  s.resolve c .dataProcessing (some .dataProcessingImmediate) .rsb (immediateWord c 0b0011#4 f lo)

/-- `Add` (R234): opcode 0100; S is free and reported in the word (R222). -/
def execAddImmediate (c : Condition) (f : BitVec 1) (lo : BitVec 20) (s : State) :
    Host.Outcome State Fault Refusal :=
  s.resolve c .dataProcessing (some .dataProcessingImmediate) .add (immediateWord c 0b0100#4 f lo)

/-- `Adc` (R235): opcode 0101; S is free and reported in the word (R222). -/
def execAdcImmediate (c : Condition) (f : BitVec 1) (lo : BitVec 20) (s : State) :
    Host.Outcome State Fault Refusal :=
  s.resolve c .dataProcessing (some .dataProcessingImmediate) .adc (immediateWord c 0b0101#4 f lo)

/-- `Sbc` (R236): opcode 0110; S is free and reported in the word (R222). -/
def execSbcImmediate (c : Condition) (f : BitVec 1) (lo : BitVec 20) (s : State) :
    Host.Outcome State Fault Refusal :=
  s.resolve c .dataProcessing (some .dataProcessingImmediate) .sbc (immediateWord c 0b0110#4 f lo)

/-- `Rsc` (R237): opcode 0111; S is free and reported in the word (R222). -/
def execRscImmediate (c : Condition) (f : BitVec 1) (lo : BitVec 20) (s : State) :
    Host.Outcome State Fault Refusal :=
  s.resolve c .dataProcessing (some .dataProcessingImmediate) .rsc (immediateWord c 0b0111#4 f lo)

/-- `Tst` (R238): opcode 1000; S is 1 in every such word (R222). -/
def execTstImmediate (c : Condition) (lo : BitVec 20) (s : State) :
    Host.Outcome State Fault Refusal :=
  s.resolve c .dataProcessing (some .dataProcessingImmediate) .tst (immediateWord c 0b1000#4 1#1 lo)

/-- `Teq` (R239): opcode 1001; S is 1 in every such word (R222). -/
def execTeqImmediate (c : Condition) (lo : BitVec 20) (s : State) :
    Host.Outcome State Fault Refusal :=
  s.resolve c .dataProcessing (some .dataProcessingImmediate) .teq (immediateWord c 0b1001#4 1#1 lo)

/-- `Cmp` (R240): opcode 1010; S is 1 in every such word (R222). -/
def execCmpImmediate (c : Condition) (lo : BitVec 20) (s : State) :
    Host.Outcome State Fault Refusal :=
  s.resolve c .dataProcessing (some .dataProcessingImmediate) .cmp (immediateWord c 0b1010#4 1#1 lo)

/-- `Cmn` (R241): opcode 1011; S is 1 in every such word (R222). -/
def execCmnImmediate (c : Condition) (lo : BitVec 20) (s : State) :
    Host.Outcome State Fault Refusal :=
  s.resolve c .dataProcessing (some .dataProcessingImmediate) .cmn (immediateWord c 0b1011#4 1#1 lo)

/-- `Orr` (R242): opcode 1100; S is free and reported in the word (R222). -/
def execOrrImmediate (c : Condition) (f : BitVec 1) (lo : BitVec 20) (s : State) :
    Host.Outcome State Fault Refusal :=
  s.resolve c .dataProcessing (some .dataProcessingImmediate) .orr (immediateWord c 0b1100#4 f lo)

/-- `Mov` (R243): opcode 1101; S is free and reported in the word (R222). -/
def execMovImmediate (c : Condition) (f : BitVec 1) (lo : BitVec 20) (s : State) :
    Host.Outcome State Fault Refusal :=
  s.resolve c .dataProcessing (some .dataProcessingImmediate) .mov (immediateWord c 0b1101#4 f lo)

/-- `Bic` (R244): opcode 1110; S is free and reported in the word (R222). -/
def execBicImmediate (c : Condition) (f : BitVec 1) (lo : BitVec 20) (s : State) :
    Host.Outcome State Fault Refusal :=
  s.resolve c .dataProcessing (some .dataProcessingImmediate) .bic (immediateWord c 0b1110#4 f lo)

/-- `Mvn` (R245): opcode 1111; S is free and reported in the word (R222). -/
def execMvnImmediate (c : Condition) (f : BitVec 1) (lo : BitVec 20) (s : State) :
    Host.Outcome State Fault Refusal :=
  s.resolve c .dataProcessing (some .dataProcessingImmediate) .mvn (immediateWord c 0b1111#4 f lo)

end Sys2Proof.Machine
end

