-- ==== Sys2Proof/Machine/DataProcessingRegister.lean ====
section
/-! DEFINITION. The sixteen data-processing instructions in the register form (sub-form DataProcessingRegister, R182). The meaning of each is what
the block reports for it: no ALU result and no flag is computed (R4, R23). -/

namespace Sys2Proof.Machine

/-- `And` (R230): opcode 0000; S is free and reported in the word (R222). -/
def execAndRegister (c : Condition) (f : BitVec 1) (hi : BitVec 15) (lo : BitVec 4) (s : State) :
    Host.Outcome State Fault Refusal :=
  s.resolve c .dataProcessing (some .dataProcessingRegister) .and (registerWord c 0b0000#4 f hi lo)

/-- `Eor` (R231): opcode 0001; S is free and reported in the word (R222). -/
def execEorRegister (c : Condition) (f : BitVec 1) (hi : BitVec 15) (lo : BitVec 4) (s : State) :
    Host.Outcome State Fault Refusal :=
  s.resolve c .dataProcessing (some .dataProcessingRegister) .eor (registerWord c 0b0001#4 f hi lo)

/-- `Sub` (R232): opcode 0010; S is free and reported in the word (R222). -/
def execSubRegister (c : Condition) (f : BitVec 1) (hi : BitVec 15) (lo : BitVec 4) (s : State) :
    Host.Outcome State Fault Refusal :=
  s.resolve c .dataProcessing (some .dataProcessingRegister) .sub (registerWord c 0b0010#4 f hi lo)

/-- `Rsb` (R233): opcode 0011; S is free and reported in the word (R222). -/
def execRsbRegister (c : Condition) (f : BitVec 1) (hi : BitVec 15) (lo : BitVec 4) (s : State) :
    Host.Outcome State Fault Refusal :=
  s.resolve c .dataProcessing (some .dataProcessingRegister) .rsb (registerWord c 0b0011#4 f hi lo)

/-- `Add` (R234): opcode 0100; S is free and reported in the word (R222). -/
def execAddRegister (c : Condition) (f : BitVec 1) (hi : BitVec 15) (lo : BitVec 4) (s : State) :
    Host.Outcome State Fault Refusal :=
  s.resolve c .dataProcessing (some .dataProcessingRegister) .add (registerWord c 0b0100#4 f hi lo)

/-- `Adc` (R235): opcode 0101; S is free and reported in the word (R222). -/
def execAdcRegister (c : Condition) (f : BitVec 1) (hi : BitVec 15) (lo : BitVec 4) (s : State) :
    Host.Outcome State Fault Refusal :=
  s.resolve c .dataProcessing (some .dataProcessingRegister) .adc (registerWord c 0b0101#4 f hi lo)

/-- `Sbc` (R236): opcode 0110; S is free and reported in the word (R222). -/
def execSbcRegister (c : Condition) (f : BitVec 1) (hi : BitVec 15) (lo : BitVec 4) (s : State) :
    Host.Outcome State Fault Refusal :=
  s.resolve c .dataProcessing (some .dataProcessingRegister) .sbc (registerWord c 0b0110#4 f hi lo)

/-- `Rsc` (R237): opcode 0111; S is free and reported in the word (R222). -/
def execRscRegister (c : Condition) (f : BitVec 1) (hi : BitVec 15) (lo : BitVec 4) (s : State) :
    Host.Outcome State Fault Refusal :=
  s.resolve c .dataProcessing (some .dataProcessingRegister) .rsc (registerWord c 0b0111#4 f hi lo)

/-- `Tst` (R238): opcode 1000; S is 1 in every such word (R222). -/
def execTstRegister (c : Condition) (hi : BitVec 15) (lo : BitVec 4) (s : State) :
    Host.Outcome State Fault Refusal :=
  s.resolve c .dataProcessing (some .dataProcessingRegister) .tst (registerWord c 0b1000#4 1#1 hi lo)

/-- `Teq` (R239): opcode 1001; S is 1 in every such word (R222). -/
def execTeqRegister (c : Condition) (hi : BitVec 15) (lo : BitVec 4) (s : State) :
    Host.Outcome State Fault Refusal :=
  s.resolve c .dataProcessing (some .dataProcessingRegister) .teq (registerWord c 0b1001#4 1#1 hi lo)

/-- `Cmp` (R240): opcode 1010; S is 1 in every such word (R222). -/
def execCmpRegister (c : Condition) (hi : BitVec 15) (lo : BitVec 4) (s : State) :
    Host.Outcome State Fault Refusal :=
  s.resolve c .dataProcessing (some .dataProcessingRegister) .cmp (registerWord c 0b1010#4 1#1 hi lo)

/-- `Cmn` (R241): opcode 1011; S is 1 in every such word (R222). -/
def execCmnRegister (c : Condition) (hi : BitVec 15) (lo : BitVec 4) (s : State) :
    Host.Outcome State Fault Refusal :=
  s.resolve c .dataProcessing (some .dataProcessingRegister) .cmn (registerWord c 0b1011#4 1#1 hi lo)

/-- `Orr` (R242): opcode 1100; S is free and reported in the word (R222). -/
def execOrrRegister (c : Condition) (f : BitVec 1) (hi : BitVec 15) (lo : BitVec 4) (s : State) :
    Host.Outcome State Fault Refusal :=
  s.resolve c .dataProcessing (some .dataProcessingRegister) .orr (registerWord c 0b1100#4 f hi lo)

/-- `Mov` (R243): opcode 1101; S is free and reported in the word (R222). -/
def execMovRegister (c : Condition) (f : BitVec 1) (hi : BitVec 15) (lo : BitVec 4) (s : State) :
    Host.Outcome State Fault Refusal :=
  s.resolve c .dataProcessing (some .dataProcessingRegister) .mov (registerWord c 0b1101#4 f hi lo)

/-- `Bic` (R244): opcode 1110; S is free and reported in the word (R222). -/
def execBicRegister (c : Condition) (f : BitVec 1) (hi : BitVec 15) (lo : BitVec 4) (s : State) :
    Host.Outcome State Fault Refusal :=
  s.resolve c .dataProcessing (some .dataProcessingRegister) .bic (registerWord c 0b1110#4 f hi lo)

/-- `Mvn` (R245): opcode 1111; S is free and reported in the word (R222). -/
def execMvnRegister (c : Condition) (f : BitVec 1) (hi : BitVec 15) (lo : BitVec 4) (s : State) :
    Host.Outcome State Fault Refusal :=
  s.resolve c .dataProcessing (some .dataProcessingRegister) .mvn (registerWord c 0b1111#4 f hi lo)

end Sys2Proof.Machine
end

