-- ==== Sys2Proof/Machine/DataProcessingRegisterShifted.lean ====
section
/-! DEFINITION. The sixteen data-processing instructions in the register-shifted form (sub-form DataProcessingRegisterShifted, R183). The meaning of each is what
the block reports for it: no ALU result and no flag is computed (R4, R23). -/

namespace Sys2Proof.Machine

/-- `And` (R230): opcode 0000; S is free and reported in the word (R222). -/
def execAndRegisterShifted (c : Condition) (f : BitVec 1) (hi : BitVec 12) (mid : BitVec 2) (lo : BitVec 4) (s : State) :
    Host.Outcome State Fault Refusal :=
  s.resolve c .dataProcessing (some .dataProcessingRegisterShifted) .and (registerShiftedWord c 0b0000#4 f hi mid lo)

/-- `Eor` (R231): opcode 0001; S is free and reported in the word (R222). -/
def execEorRegisterShifted (c : Condition) (f : BitVec 1) (hi : BitVec 12) (mid : BitVec 2) (lo : BitVec 4) (s : State) :
    Host.Outcome State Fault Refusal :=
  s.resolve c .dataProcessing (some .dataProcessingRegisterShifted) .eor (registerShiftedWord c 0b0001#4 f hi mid lo)

/-- `Sub` (R232): opcode 0010; S is free and reported in the word (R222). -/
def execSubRegisterShifted (c : Condition) (f : BitVec 1) (hi : BitVec 12) (mid : BitVec 2) (lo : BitVec 4) (s : State) :
    Host.Outcome State Fault Refusal :=
  s.resolve c .dataProcessing (some .dataProcessingRegisterShifted) .sub (registerShiftedWord c 0b0010#4 f hi mid lo)

/-- `Rsb` (R233): opcode 0011; S is free and reported in the word (R222). -/
def execRsbRegisterShifted (c : Condition) (f : BitVec 1) (hi : BitVec 12) (mid : BitVec 2) (lo : BitVec 4) (s : State) :
    Host.Outcome State Fault Refusal :=
  s.resolve c .dataProcessing (some .dataProcessingRegisterShifted) .rsb (registerShiftedWord c 0b0011#4 f hi mid lo)

/-- `Add` (R234): opcode 0100; S is free and reported in the word (R222). -/
def execAddRegisterShifted (c : Condition) (f : BitVec 1) (hi : BitVec 12) (mid : BitVec 2) (lo : BitVec 4) (s : State) :
    Host.Outcome State Fault Refusal :=
  s.resolve c .dataProcessing (some .dataProcessingRegisterShifted) .add (registerShiftedWord c 0b0100#4 f hi mid lo)

/-- `Adc` (R235): opcode 0101; S is free and reported in the word (R222). -/
def execAdcRegisterShifted (c : Condition) (f : BitVec 1) (hi : BitVec 12) (mid : BitVec 2) (lo : BitVec 4) (s : State) :
    Host.Outcome State Fault Refusal :=
  s.resolve c .dataProcessing (some .dataProcessingRegisterShifted) .adc (registerShiftedWord c 0b0101#4 f hi mid lo)

/-- `Sbc` (R236): opcode 0110; S is free and reported in the word (R222). -/
def execSbcRegisterShifted (c : Condition) (f : BitVec 1) (hi : BitVec 12) (mid : BitVec 2) (lo : BitVec 4) (s : State) :
    Host.Outcome State Fault Refusal :=
  s.resolve c .dataProcessing (some .dataProcessingRegisterShifted) .sbc (registerShiftedWord c 0b0110#4 f hi mid lo)

/-- `Rsc` (R237): opcode 0111; S is free and reported in the word (R222). -/
def execRscRegisterShifted (c : Condition) (f : BitVec 1) (hi : BitVec 12) (mid : BitVec 2) (lo : BitVec 4) (s : State) :
    Host.Outcome State Fault Refusal :=
  s.resolve c .dataProcessing (some .dataProcessingRegisterShifted) .rsc (registerShiftedWord c 0b0111#4 f hi mid lo)

/-- `Tst` (R238): opcode 1000; S is 1 in every such word (R222). -/
def execTstRegisterShifted (c : Condition) (hi : BitVec 12) (mid : BitVec 2) (lo : BitVec 4) (s : State) :
    Host.Outcome State Fault Refusal :=
  s.resolve c .dataProcessing (some .dataProcessingRegisterShifted) .tst (registerShiftedWord c 0b1000#4 1#1 hi mid lo)

/-- `Teq` (R239): opcode 1001; S is 1 in every such word (R222). -/
def execTeqRegisterShifted (c : Condition) (hi : BitVec 12) (mid : BitVec 2) (lo : BitVec 4) (s : State) :
    Host.Outcome State Fault Refusal :=
  s.resolve c .dataProcessing (some .dataProcessingRegisterShifted) .teq (registerShiftedWord c 0b1001#4 1#1 hi mid lo)

/-- `Cmp` (R240): opcode 1010; S is 1 in every such word (R222). -/
def execCmpRegisterShifted (c : Condition) (hi : BitVec 12) (mid : BitVec 2) (lo : BitVec 4) (s : State) :
    Host.Outcome State Fault Refusal :=
  s.resolve c .dataProcessing (some .dataProcessingRegisterShifted) .cmp (registerShiftedWord c 0b1010#4 1#1 hi mid lo)

/-- `Cmn` (R241): opcode 1011; S is 1 in every such word (R222). -/
def execCmnRegisterShifted (c : Condition) (hi : BitVec 12) (mid : BitVec 2) (lo : BitVec 4) (s : State) :
    Host.Outcome State Fault Refusal :=
  s.resolve c .dataProcessing (some .dataProcessingRegisterShifted) .cmn (registerShiftedWord c 0b1011#4 1#1 hi mid lo)

/-- `Orr` (R242): opcode 1100; S is free and reported in the word (R222). -/
def execOrrRegisterShifted (c : Condition) (f : BitVec 1) (hi : BitVec 12) (mid : BitVec 2) (lo : BitVec 4) (s : State) :
    Host.Outcome State Fault Refusal :=
  s.resolve c .dataProcessing (some .dataProcessingRegisterShifted) .orr (registerShiftedWord c 0b1100#4 f hi mid lo)

/-- `Mov` (R243): opcode 1101; S is free and reported in the word (R222). -/
def execMovRegisterShifted (c : Condition) (f : BitVec 1) (hi : BitVec 12) (mid : BitVec 2) (lo : BitVec 4) (s : State) :
    Host.Outcome State Fault Refusal :=
  s.resolve c .dataProcessing (some .dataProcessingRegisterShifted) .mov (registerShiftedWord c 0b1101#4 f hi mid lo)

/-- `Bic` (R244): opcode 1110; S is free and reported in the word (R222). -/
def execBicRegisterShifted (c : Condition) (f : BitVec 1) (hi : BitVec 12) (mid : BitVec 2) (lo : BitVec 4) (s : State) :
    Host.Outcome State Fault Refusal :=
  s.resolve c .dataProcessing (some .dataProcessingRegisterShifted) .bic (registerShiftedWord c 0b1110#4 f hi mid lo)

/-- `Mvn` (R245): opcode 1111; S is free and reported in the word (R222). -/
def execMvnRegisterShifted (c : Condition) (f : BitVec 1) (hi : BitVec 12) (mid : BitVec 2) (lo : BitVec 4) (s : State) :
    Host.Outcome State Fault Refusal :=
  s.resolve c .dataProcessing (some .dataProcessingRegisterShifted) .mvn (registerShiftedWord c 0b1111#4 f hi mid lo)

end Sys2Proof.Machine
end

