-- ==== Sys2Proof/Machine/LoadStore.lean ====
section
/-! DEFINITION. Ldr, Str, Ldrb, Strb (R224). The access itself is outside the block, which reads and writes no memory (R40). -/

namespace Sys2Proof.Machine

/-- `Ldr` (R246): L = 1, B = 0. -/
def execLdr (c : Condition) (hi : BitVec 2) (mid : BitVec 1) (lo : BitVec 20) (s : State) :
    Host.Outcome State Fault Refusal :=
  s.resolve c .loadStore none .ldr (loadStoreWord c 1#1 0#1 hi mid lo)

/-- `Str` (R247): L = 0, B = 0. -/
def execStr (c : Condition) (hi : BitVec 2) (mid : BitVec 1) (lo : BitVec 20) (s : State) :
    Host.Outcome State Fault Refusal :=
  s.resolve c .loadStore none .str (loadStoreWord c 0#1 0#1 hi mid lo)

/-- `Ldrb` (R248): L = 1, B = 1. -/
def execLdrb (c : Condition) (hi : BitVec 2) (mid : BitVec 1) (lo : BitVec 20) (s : State) :
    Host.Outcome State Fault Refusal :=
  s.resolve c .loadStore none .ldrb (loadStoreWord c 1#1 1#1 hi mid lo)

/-- `Strb` (R249): L = 0, B = 1. -/
def execStrb (c : Condition) (hi : BitVec 2) (mid : BitVec 1) (lo : BitVec 20) (s : State) :
    Host.Outcome State Fault Refusal :=
  s.resolve c .loadStore none .strb (loadStoreWord c 0#1 1#1 hi mid lo)

end Sys2Proof.Machine
end

