-- ==== Sys2Proof/Machine/SupervisorCall.lean ====
section
/-! DEFINITION. Swi (R226, R252) and the catch-all Undefined (R227, R253). Neither raises a trap (R308). -/

namespace Sys2Proof.Machine

/-- What a word that resolves to no mnemonic makes the block report: `Undefined(w)` with the whole word (R227), and
each stage's own result beside it (R221, R306). -/
def execUndefined (w : Word) (s : State) : Host.Outcome State Fault Refusal :=
  .next (s.settle (decodeOutputs w (decodeCondition w) (decodeClass s.params.class11xPolicy w) (.undefined w)))

/-- `Swi(imm24)` (R252). DEDUCED (log 11): under `CLASS_11X_POLICY = Reject` such a word is `Undefined`, with
`err_class` set (R302). -/
def execSwi (c : Condition) (hi : BitVec 2) (imm : BitVec 24) (s : State) : Host.Outcome State Fault Refusal :=
  match s.params.class11xPolicy with
  | .supervisorCall => s.resolve c .supervisorCall none (.swi imm) (swiWord c hi imm)
  | .reject => execUndefined (swiWord c hi imm) s

end Sys2Proof.Machine
end

