-- ==== Sys2Proof/Machine/Dispatch.lean ====
section
/-! DEFINITION. One arm per constructor of Instr: the meaning of each instruction. -/

namespace Sys2Proof.Machine

/-- The meaning of an instruction on a state. -/
def exec (i : Instr) (s : State) : Host.Outcome State Fault Refusal :=
  match i with
  | .andRegister c f hi lo => Sys2Proof.Machine.execAndRegister c f hi lo s
  | .eorRegister c f hi lo => Sys2Proof.Machine.execEorRegister c f hi lo s
  | .subRegister c f hi lo => Sys2Proof.Machine.execSubRegister c f hi lo s
  | .rsbRegister c f hi lo => Sys2Proof.Machine.execRsbRegister c f hi lo s
  | .addRegister c f hi lo => Sys2Proof.Machine.execAddRegister c f hi lo s
  | .adcRegister c f hi lo => Sys2Proof.Machine.execAdcRegister c f hi lo s
  | .sbcRegister c f hi lo => Sys2Proof.Machine.execSbcRegister c f hi lo s
  | .rscRegister c f hi lo => Sys2Proof.Machine.execRscRegister c f hi lo s
  | .tstRegister c hi lo => Sys2Proof.Machine.execTstRegister c hi lo s
  | .teqRegister c hi lo => Sys2Proof.Machine.execTeqRegister c hi lo s
  | .cmpRegister c hi lo => Sys2Proof.Machine.execCmpRegister c hi lo s
  | .cmnRegister c hi lo => Sys2Proof.Machine.execCmnRegister c hi lo s
  | .orrRegister c f hi lo => Sys2Proof.Machine.execOrrRegister c f hi lo s
  | .movRegister c f hi lo => Sys2Proof.Machine.execMovRegister c f hi lo s
  | .bicRegister c f hi lo => Sys2Proof.Machine.execBicRegister c f hi lo s
  | .mvnRegister c f hi lo => Sys2Proof.Machine.execMvnRegister c f hi lo s
  | .andRegisterShifted c f hi mid lo => Sys2Proof.Machine.execAndRegisterShifted c f hi mid lo s
  | .eorRegisterShifted c f hi mid lo => Sys2Proof.Machine.execEorRegisterShifted c f hi mid lo s
  | .subRegisterShifted c f hi mid lo => Sys2Proof.Machine.execSubRegisterShifted c f hi mid lo s
  | .rsbRegisterShifted c f hi mid lo => Sys2Proof.Machine.execRsbRegisterShifted c f hi mid lo s
  | .addRegisterShifted c f hi mid lo => Sys2Proof.Machine.execAddRegisterShifted c f hi mid lo s
  | .adcRegisterShifted c f hi mid lo => Sys2Proof.Machine.execAdcRegisterShifted c f hi mid lo s
  | .sbcRegisterShifted c f hi mid lo => Sys2Proof.Machine.execSbcRegisterShifted c f hi mid lo s
  | .rscRegisterShifted c f hi mid lo => Sys2Proof.Machine.execRscRegisterShifted c f hi mid lo s
  | .tstRegisterShifted c hi mid lo => Sys2Proof.Machine.execTstRegisterShifted c hi mid lo s
  | .teqRegisterShifted c hi mid lo => Sys2Proof.Machine.execTeqRegisterShifted c hi mid lo s
  | .cmpRegisterShifted c hi mid lo => Sys2Proof.Machine.execCmpRegisterShifted c hi mid lo s
  | .cmnRegisterShifted c hi mid lo => Sys2Proof.Machine.execCmnRegisterShifted c hi mid lo s
  | .orrRegisterShifted c f hi mid lo => Sys2Proof.Machine.execOrrRegisterShifted c f hi mid lo s
  | .movRegisterShifted c f hi mid lo => Sys2Proof.Machine.execMovRegisterShifted c f hi mid lo s
  | .bicRegisterShifted c f hi mid lo => Sys2Proof.Machine.execBicRegisterShifted c f hi mid lo s
  | .mvnRegisterShifted c f hi mid lo => Sys2Proof.Machine.execMvnRegisterShifted c f hi mid lo s
  | .andImmediate c f lo => Sys2Proof.Machine.execAndImmediate c f lo s
  | .eorImmediate c f lo => Sys2Proof.Machine.execEorImmediate c f lo s
  | .subImmediate c f lo => Sys2Proof.Machine.execSubImmediate c f lo s
  | .rsbImmediate c f lo => Sys2Proof.Machine.execRsbImmediate c f lo s
  | .addImmediate c f lo => Sys2Proof.Machine.execAddImmediate c f lo s
  | .adcImmediate c f lo => Sys2Proof.Machine.execAdcImmediate c f lo s
  | .sbcImmediate c f lo => Sys2Proof.Machine.execSbcImmediate c f lo s
  | .rscImmediate c f lo => Sys2Proof.Machine.execRscImmediate c f lo s
  | .tstImmediate c lo => Sys2Proof.Machine.execTstImmediate c lo s
  | .teqImmediate c lo => Sys2Proof.Machine.execTeqImmediate c lo s
  | .cmpImmediate c lo => Sys2Proof.Machine.execCmpImmediate c lo s
  | .cmnImmediate c lo => Sys2Proof.Machine.execCmnImmediate c lo s
  | .orrImmediate c f lo => Sys2Proof.Machine.execOrrImmediate c f lo s
  | .movImmediate c f lo => Sys2Proof.Machine.execMovImmediate c f lo s
  | .bicImmediate c f lo => Sys2Proof.Machine.execBicImmediate c f lo s
  | .mvnImmediate c f lo => Sys2Proof.Machine.execMvnImmediate c f lo s
  | .ldr c hi mid lo => Sys2Proof.Machine.execLdr c hi mid lo s
  | .str c hi mid lo => Sys2Proof.Machine.execStr c hi mid lo s
  | .ldrb c hi mid lo => Sys2Proof.Machine.execLdrb c hi mid lo s
  | .strb c hi mid lo => Sys2Proof.Machine.execStrb c hi mid lo s
  | .b c hi offset => Sys2Proof.Machine.execB c hi offset s
  | .bl c hi offset => Sys2Proof.Machine.execBl c hi offset s
  | .swi c hi imm => Sys2Proof.Machine.execSwi c hi imm s

end Sys2Proof.Machine
end

