-- ==== Sys2Proof/Machine/Step.lean ====
section
/-! DEFINITION. One atomic step: the block takes the inputs present and produces all its outputs (R336). -/

namespace Sys2Proof.Machine

/-- The word on `dec_word` is the instruction; a word that stands for none is `Undefined` and the step goes on
(R221, R227). Nothing is fetched and no address advances: there is no program counter (R22). -/
def step (s : State) : Host.Outcome State Fault Refusal :=
  match decode s.params.class11xPolicy s.decWord with
  | .ok i => exec i s
  | .error _ => execUndefined s.decWord s

/-- The host's placement: the word of `nbits` bits, higher bits zero, on `dec_word`, where the next step reads it
(log 6). Nothing else changes. -/
def State.withFetchWord (s : State) (nbits w : Nat) : State := s.driveDecWord (BitVec.ofNat 32 (w % 2 ^ nbits))

end Sys2Proof.Machine
end

