-- ==== Sys2Proof/Safety.lean ====
section
/-! DEFINITION. What counts as a lawful state of the ports, in the terms the statements use. -/

namespace Sys2Proof.Machine

/-- Every output is the function of the inputs present (R30, R33): nothing is left over from before (R27). -/
abbrev Settled (s : State) : Prop :=
  s.decOut = decodeGroup s.params.class11xPolicy s.decWord ∧ s.encOut = encodeGroup s.encIn

/-- The zero-drive convention (R31). -/
abbrev ZeroDriven (d : DecodeOutputs) : Prop :=
  (d.condValid = false → d.condCode = 0) ∧ (d.classValid = false → d.classId = 0) ∧
    (d.subformValid = false → d.subformId = 0) ∧ (d.mnemId ≠ 22 → d.swiImm24 = 0) ∧ (d.mnemId ≠ 23 → d.undefWord = 0)

/-- Every identifier a decode output carries names a variant of its enumeration, or is the zero of an output whose
valid bit is 0 (R29, R305). -/
abbrev IdsNamed (d : DecodeOutputs) : Prop :=
  d.condCode ≠ 15 ∧ d.classId.toNat ≤ 5 ∧ d.subformId.toNat ≤ 11 ∧ d.mnemId.toNat ≤ 23

/-- The error outputs say exactly that a stage found no match (R124, R155, R303), none is raised by a sub-form, and no
two sub-forms match (R195, R196). -/
abbrev ErrorsAgree (d : DecodeOutputs) : Prop :=
  d.errCond = !d.condValid ∧ d.errClass = !d.classValid ∧ d.errSubform = false ∧ d.subformConflict = false

/-- What every evaluation of the block leaves on the decode outputs. -/
abbrev PortsLawful (s : State) : Prop := ZeroDriven s.decOut ∧ IdsNamed s.decOut ∧ ErrorsAgree s.decOut

/-- The decode outputs of a resolved word, value by value (R30, R31): condition `c`, class identifier `k`, sub-form
identifier `f` where there is one, mnemonic identifier `m`, Swi immediate `imm`, no error and no conflict. -/
def resolvedPorts (c : Condition) (k : BitVec 3) (f : Option (BitVec 4)) (m : BitVec 5) (imm : BitVec 24) (w : Word) :
    DecodeOutputs :=
  { condValid := true, condCode := conditionCode c, classValid := true, classId := k, subformValid := f.isSome,
    subformId := f.getD 0, subformConflict := false, errCond := false, errClass := false, errSubform := false,
    mnemId := m, swiImm24 := imm, undefWord := 0, wordOut := w }

/-- The state after an instruction that resolved: `resolvedPorts` on the decode outputs, the encode outputs those of
the encode inputs, and everything else as it was. -/
def State.reporting (s : State) (c : Condition) (k : BitVec 3) (f : Option (BitVec 4)) (m : BitVec 5)
    (imm : BitVec 24) (w : Word) : State :=
  { params := s.params, decWord := s.decWord, encIn := s.encIn, decOut := resolvedPorts c k f m imm w,
    encOut := encodeGroup s.encIn }

end Sys2Proof.Machine
end

