-- ==== Sys2Proof/Certificates/Slice0/Obligations.lean ====
section
/-! DEFINITION. The statements for the provers, from the numbered rules of the spec. Nothing is proved here. -/

open Sys2Proof Sys2Proof.Machine

/-- positionsValid P holds iff P is non-empty, every position is below 32 and the positions are pairwise distinct;
a valid list has at most 32 positions; for an invalid list bf_read, bf_write and bf_match all fault with
InvalidBitPosition(P). (R101) -/
def Obligations.BitFieldListCheck : Prop :=
    (∀ P : List Nat, positionsValid P = true ↔
      P ≠ [] ∧ (∀ p ∈ P, p < 32) ∧
        ∀ (i j : Nat) (hi : i < P.length) (hj : j < P.length), i ≠ j → P[i] ≠ P[j]) ∧
    (∀ P : List Nat, positionsValid P = true → P.length ≤ 32) ∧
    ∀ (w : Word) (v e : Nat) (P : List Nat), positionsValid P = false →
      bfRead w P = .error (.invalidBitPosition P) ∧ bfWrite w v P = .error (.invalidBitPosition P) ∧
        bfMatch w P e = .error (.invalidBitPosition P)

/-- For a valid list P of length n, bf_read(w, P) is a value v with v[n-1-i] = w[P[i]] for every i < n; for an
invalid list it faults with InvalidBitPosition(P); bf_read(0x12, [4, 1, 0]) = 6. (R102) -/
def Obligations.BitFieldReadGathersBits : Prop :=
    (∀ (w : Word) (P : List Nat), positionsValid P = true →
      ∃ v, bfRead w P = .ok v ∧
        ∀ (i : Nat) (h : i < P.length), v.getLsbD (P.length - 1 - i) = w.getLsbD P[i]) ∧
    (∀ (w : Word) (P : List Nat), positionsValid P = false → bfRead w P = .error (.invalidBitPosition P)) ∧
    bfRead 0x00000012 [4, 1, 0] = .ok 6

/-- For a valid list P of length n, bf_write(w, v, P) is a word r with r[P[i]] = v[n-1-i] for every i < n and r[q]
= w[q] for every q outside P; writing the value already there returns w; for an invalid list it faults with
InvalidBitPosition(P); bf_write(0xFFFFFFFF, 0b010, [27, 26, 25]) = 0xF5FFFFFF. (R103) -/
def Obligations.BitFieldWriteScattersBits : Prop :=
    (∀ (w : Word) (v : Nat) (P : List Nat), positionsValid P = true →
      ∃ r, bfWrite w v P = .ok r ∧
        (∀ (i : Nat) (h : i < P.length), r.getLsbD P[i] = v.testBit (P.length - 1 - i)) ∧
        (∀ q : Nat, q ∉ P → r.getLsbD q = w.getLsbD q) ∧
        ((∀ (i : Nat) (h : i < P.length), v.testBit (P.length - 1 - i) = w.getLsbD P[i]) → r = w)) ∧
    (∀ (w : Word) (v : Nat) (P : List Nat), positionsValid P = false →
      bfWrite w v P = .error (.invalidBitPosition P)) ∧
    bfWrite 0xFFFFFFFF 0b010 [27, 26, 25] = .ok 0xF5FFFFFF

/-- bf_match(w, P, e) is true iff bf_read(w, P) equals e modulo 2^n, and faults on an invalid list; in bf_write
and bf_match only bits n-1:0 of the value are used; bf_match(0xE0000000, [31, 30, 29, 28], 0b1110) is true.
(R104, R105) -/
def Obligations.BitFieldMatchComparesLowBits : Prop :=
    (∀ (w : Word) (P : List Nat) (e : Nat), positionsValid P = true →
      ∃ u, bfRead w P = .ok u ∧ bfMatch w P e = .ok (decide (u.toNat = e % 2 ^ P.length))) ∧
    (∀ (w : Word) (P : List Nat) (e : Nat), positionsValid P = false →
      bfMatch w P e = .error (.invalidBitPosition P)) ∧
    (∀ (w : Word) (v e : Nat) (P : List Nat),
      bfWrite w v P = bfWrite w (v % 2 ^ P.length) P ∧ bfMatch w P e = bfMatch w P (e % 2 ^ P.length)) ∧
    bfMatch 0xE0000000 [31, 30, 29, 28] 0b1110 = .ok true

/-- For every valid list P of length n: for v < 2^n, reading after writing v into 0 gives v; for every word w and
value v, bf_read(bf_write(w, v, P), P) = v[n-1:0]; and bf_write(w, v, P)[q] = w[q] for every q not in P.
(R109) -/
def Obligations.BitFieldReadAfterWrite : Prop :=
    ∀ P : List Nat, positionsValid P = true →
    (∀ v : Nat, v < 2 ^ P.length →
      ∃ r u, bfWrite 0 v P = .ok r ∧ bfRead r P = .ok u ∧ u.toNat = v) ∧
    ∀ (w : Word) (v : Nat), ∃ r, bfWrite w v P = .ok r ∧ bfRead r P = .ok (BitVec.ofNat P.length v) ∧
      ∀ q : Nat, q ∉ P → r.getLsbD q = w.getLsbD q

/-- For every valid list P: bf_write(w, bf_read(w, P), P) = w, and bf_write(bf_write(w, v, P), u, P) = bf_write(w,
u, P). (R110) -/
def Obligations.BitFieldWriteIdempotence : Prop :=
    ∀ (w : Word) (P : List Nat), positionsValid P = true →
    (∃ u, bfRead w P = .ok u ∧ bfWrite w u.toNat P = .ok w) ∧
    ∀ v u : Nat, ∃ r, bfWrite w v P = .ok r ∧ bfWrite r u P = bfWrite w u P

/-- For 0 < n and lo + n <= 32, w[lo+n-1:lo] is bf_read of the list [lo+n-1, ..., lo] and w[lo+n-1:lo] <- v is
bf_write of it; the block's twelve constant lists are valid and each named field is the bf_read of its list.
(R108) -/
def Obligations.SlicesAreBitFieldOperations : Prop :=
    (∀ (w : Word) (lo n : Nat), 0 < n → lo + n ≤ 32 →
      (∃ u, bfRead w (descending lo n) = .ok u ∧ u.toNat = (w.extractLsb' lo n).toNat) ∧
        ∀ v : BitVec n, bfWrite w v.toNat (descending lo n) = .ok (putBits w lo v)) ∧
    (∀ P ∈ constantLists, positionsValid P = true) ∧
    ∀ w : Word,
      bfRead w [31, 30, 29, 28] = .ok (condField w) ∧ bfRead w [27, 26, 25] = .ok (classOp w) ∧
      bfRead w [4] = .ok (classOp1 w) ∧ bfRead w [25] = .ok (dpOp w) ∧
      bfRead w [24, 23, 22, 21, 20] = .ok (dpOp1 w) ∧ bfRead w [7, 6, 5, 4] = .ok (dpOp2 w) ∧
      bfRead w [24, 23, 22, 21] = .ok (dpOpcode w) ∧ bfRead w [20] = .ok (bit20 w) ∧
      bfRead w [22] = .ok (bit22 w) ∧ bfRead w [24] = .ok (bit24 w) ∧ bfRead w [27, 26] = .ok (classGate w) ∧
      bfRead w (descending 0 24) = .ok (imm24 w)

/-- The conditions have codes and identifiers 0 to 14 in the source's order and 1111 names none; the classes have
identifiers 0 to 5 and 6, 7 name none; the sub-forms 0 to 11 and 12 to 15 name none; the mnemonics 0 to 23
(Swi 22, Undefined 23) and 24 to 31 name none; each identifier names its value back. (R29, R120) -/
def Obligations.EnumerationIdentifiers : Prop :=
    ([Condition.eq, .ne, .cs, .cc, .mi, .pl, .vs, .vc, .hi, .ls, .ge, .lt, .gt, .le, .al].map conditionCode =
      [0, 1, 2, 3, 4, 5, 6, 7, 8, 9, 10, 11, 12, 13, 14]) ∧
    (∀ c : Condition, conditionOfCode (conditionCode c) = some c) ∧ conditionOfCode 0b1111#4 = none ∧
    ([InstructionClass.dataProcessing, .loadStore, .loadStoreMultiple, .media, .branch, .supervisorCall].map classId =
      [0, 1, 2, 3, 4, 5]) ∧
    (∀ c : InstructionClass, classOfId (classId c) = some c) ∧ classOfId 6#3 = none ∧ classOfId 7#3 = none ∧
    ([DataProcessingForm.dataProcessingRegister, .dataProcessingRegisterShifted, .miscellaneous, .halfwordMultiply,
      .multiplyAccumulate, .synchronizationPrimitives, .extraLoadStore, .extraLoadStoreUnprivileged,
      .dataProcessingImmediate, .movImmediate16, .movTopImmediate16, .msrImmediateHints].map formId =
      [0, 1, 2, 3, 4, 5, 6, 7, 8, 9, 10, 11]) ∧
    (∀ f : DataProcessingForm, formOfId (formId f) = some f) ∧
    (∀ k : BitVec 4, 12 ≤ k.toNat → formOfId k = none) ∧
    (∀ (imm : BitVec 24) (u : Word),
      [Mnemonic.and, .eor, .sub, .rsb, .add, .adc, .sbc, .rsc, .tst, .teq, .cmp, .cmn, .orr, .mov, .bic, .mvn, .ldr,
        .str, .ldrb, .strb, .b, .bl, .swi imm, .undefined u].map mnemonicId =
        [0, 1, 2, 3, 4, 5, 6, 7, 8, 9, 10, 11, 12, 13, 14, 15, 16, 17, 18, 19, 20, 21, 22, 23]) ∧
    (∀ m : Mnemonic, mnemonicOfPort (mnemonicId m) (mnemonicImm24 m) (mnemonicWord m) = some m) ∧
    ∀ (k : BitVec 5) (imm : BitVec 24) (u : Word), 24 ≤ k.toNat → mnemonicOfPort k imm u = none

/-- decode_condition(w) is None when w[31:28] = 1111, is Some(c) exactly when w[31:28] is the code of c, and is
the same for all words that share the top nibble; decode_condition(0xE0000000) = Some(AL). (R121) -/
def Obligations.DecodeConditionReadsTopNibble : Prop :=
    (∀ w : Word, w.extractLsb 31 28 = 0b1111#4 → decodeCondition w = none) ∧
    (∀ (w : Word) (c : Condition), decodeCondition w = some c ↔ w.extractLsb 31 28 = conditionCode c) ∧
    (∀ w u : Word, w.extractLsb 31 28 = u.extractLsb 31 28 → decodeCondition w = decodeCondition u) ∧
    decodeCondition 0xE0000000 = some .al

/-- For every word with w[31:28] = 1111, decode_condition returns None, never a default such as AL, and
decode_instruction returns Undefined(w) under both policies, whatever the other bits are. (R123) -/
def Obligations.ReservedConditionIsRejected : Prop :=
    ∀ (p : Class11xPolicy) (w : Word), w.extractLsb 31 28 = 0b1111#4 →
    decodeCondition w = none ∧ decodeInstruction p w = .undefined w

/-- For every condition c: encode_condition(c) has zero upper bits and is never 1111, every word with w[31:28] =
encode_condition(c)[3:0] decodes to Some(c); and for every word with w[31:28] not 1111, the condition it
decodes to encodes back to w[31:28]. (R122, R126) -/
def Obligations.ConditionRoundTrip : Prop :=
    (∀ c : Condition, (encodeCondition c).extractLsb 7 4 = 0#4 ∧ (encodeCondition c).extractLsb 3 0 = conditionCode c ∧
      (encodeCondition c).extractLsb 3 0 ≠ 0b1111#4 ∧ encodeCondPort (conditionCode c) = .driven (conditionCode c)) ∧
    (∀ (c : Condition) (w : Word), decodeCondition (putBits w 28 ((encodeCondition c).extractLsb 3 0)) = some c) ∧
    (∀ (c : Condition) (w : Word), w.extractLsb 31 28 = (encodeCondition c).extractLsb 3 0 →
      decodeCondition w = some c) ∧
    (∀ w : Word, w.extractLsb 31 28 ≠ 0b1111#4 →
      ∃ c, decodeCondition w = some c ∧ (encodeCondition c).extractLsb 3 0 = w.extractLsb 31 28) ∧
    encodeCondition .al = 0x0E#8

/-- For every word and policy, cond_valid = NOT(w[31] AND w[30] AND w[29] AND w[28]), cond_code is w[31:28] when
valid and 0000 otherwise, and err_cond = NOT cond_valid. (R124) -/
def Obligations.ConditionSignals : Prop :=
    ∀ (p : Class11xPolicy) (w : Word),
    (decodeGroup p w).condValid = !(w.getLsbD 31 && w.getLsbD 30 && w.getLsbD 29 && w.getLsbD 28) ∧
    (decodeGroup p w).condCode = (if (decodeGroup p w).condValid then w.extractLsb 31 28 else 0#4) ∧
    (decodeGroup p w).errCond = !(decodeGroup p w).condValid

/-- 000 and 001 are DataProcessing; 010 is LoadStore; 011 is LoadStoreMultiple for bit 4 = 0 and Media for bit 4 =
1; 100 and 101 are Branch; 110 and 111 are SupervisorCall, or no class under Reject. (R151) -/
def Obligations.DecodeClassTable : Prop :=
    ∀ (p : Class11xPolicy) (w : Word),
    (w.extractLsb 27 25 = 0b000#3 ∨ w.extractLsb 27 25 = 0b001#3 → decodeClass p w = some .dataProcessing) ∧
    (w.extractLsb 27 25 = 0b010#3 → decodeClass p w = some .loadStore) ∧
    (w.extractLsb 27 25 = 0b011#3 →
      decodeClass p w = if w.getLsbD 4 then some .media else some .loadStoreMultiple) ∧
    (w.extractLsb 27 25 = 0b100#3 ∨ w.extractLsb 27 25 = 0b101#3 → decodeClass p w = some .branch) ∧
    (w.extractLsb 27 25 = 0b110#3 ∨ w.extractLsb 27 25 = 0b111#3 →
      decodeClass p w = match p with
        | .supervisorCall => some .supervisorCall
        | .reject => none)

/-- Under CLASS_11X_POLICY = SupervisorCall decode_class returns Some for every word, also for a word whose
condition is 1111; under Reject it returns None exactly for the words with w[27:26] = 11. (R152) -/
def Obligations.DecodeClassTotality : Prop :=
    (∀ w : Word, (decodeClass .supervisorCall w).isSome = true) ∧
    (∀ w : Word, decodeClass .reject w = none ↔ w.extractLsb 27 26 = 0b11#2) ∧
    ∀ (p : Class11xPolicy) (w : Word) (k : BitVec 4), decodeClass p (putBits w 28 k) = decodeClass p w

/-- encode_class writes 000, 010, 011, 011, 101, 111 into bits 27:25 for the six classes in order and bit 4 = 0
for LoadStoreMultiple, 1 for Media; every other bit, the condition field among them, is copied from w;
encode_class(Branch, 0) = 0x0A000000. (R153, R154) -/
def Obligations.EncodeClassWritesCanonicalCode : Prop :=
    (∀ w : Word,
      encodeClass .dataProcessing w = w &&& 0xF1FFFFFF ∧
      encodeClass .loadStore w = (w &&& 0xF1FFFFFF) ||| 0x04000000 ∧
      encodeClass .loadStoreMultiple w = (w &&& 0xF1FFFFEF) ||| 0x06000000 ∧
      encodeClass .media w = (w &&& 0xF1FFFFEF) ||| 0x06000010 ∧
      encodeClass .branch w = (w &&& 0xF1FFFFFF) ||| 0x0A000000 ∧
      encodeClass .supervisorCall w = (w &&& 0xF1FFFFFF) ||| 0x0E000000) ∧
    (∀ (c : InstructionClass) (w : Word) (q : Nat), (q < 25 ∨ 27 < q) →
      (q ≠ 4 ∨ (c ≠ .loadStoreMultiple ∧ c ≠ .media)) → (encodeClass c w).getLsbD q = w.getLsbD q) ∧
    encodeClass .branch 0x00000000 = 0x0A000000

/-- Under SupervisorCall decode_class(encode_class(c, w)) = Some(c) for all c and w; under Reject the same but
None for SupervisorCall; if decode_class(w) = Some(c), encode_class(c, w) is w with the canonical code in bits
27:25, and equals w exactly when w[27:25] is 000, 010, 011, 101 or 111. (R156) -/
def Obligations.ClassRoundTrip : Prop :=
    (∀ (c : InstructionClass) (w : Word), decodeClass .supervisorCall (encodeClass c w) = some c) ∧
    (∀ (c : InstructionClass) (w : Word),
      decodeClass .reject (encodeClass c w) = if c = .supervisorCall then none else some c) ∧
    ∀ (p : Class11xPolicy) (c : InstructionClass) (w : Word), decodeClass p w = some c →
      encodeClass c w = putBits w 25 (canonicalClassOp c) ∧
      (encodeClass c w = w ↔ w.extractLsb 27 25 ∈ [0b000#3, 0b010#3, 0b011#3, 0b101#3, 0b111#3])

/-- class_valid = NOT(w[27] AND w[26]) OR policy SupervisorCall; class_id is 0 for 00x, 1 for 010, 2 or 3 for 011
by bit 4, 4 for 10x, 5 for 11x, and 0 when not valid; err_class = NOT class_valid. (R155) -/
def Obligations.ClassSignals : Prop :=
    ∀ (p : Class11xPolicy) (w : Word),
    (decodeGroup p w).classValid = (!(w.getLsbD 27 && w.getLsbD 26) || p == .supervisorCall) ∧
    (decodeGroup p w).classId =
      (if (decodeGroup p w).classValid then
        if w.getLsbD 27 then (if w.getLsbD 26 then 5#3 else 4#3)
        else if w.getLsbD 26 then (if w.getLsbD 25 then (if w.getLsbD 4 then 3#3 else 2#3) else 1#3)
        else 0#3
      else 0#3) ∧
    (decodeGroup p w).errClass = !(decodeGroup p w).classValid

/-- For each of the twelve sub-forms, its predicate on the key, under the class gate, holds of a word exactly when
the word matches the word-level mask and value the spec gives beside it and not its exclusion.
(spec/43_dp_subform.md section 2 (the 12 sub-form predicates)) -/
def Obligations.SubformWordPatterns : Prop :=
    ∀ (w : Word) (f : DataProcessingForm), f ∈ matchingForms w ↔
    match f with
    | .dataProcessingRegister => w &&& 0x0E000010 = 0x00000000 ∧ ¬ w &&& 0x01900000 = 0x01000000
    | .dataProcessingRegisterShifted => w &&& 0x0E000090 = 0x00000010 ∧ ¬ w &&& 0x01900000 = 0x01000000
    | .miscellaneous => w &&& 0x0F900080 = 0x01000000
    | .halfwordMultiply => w &&& 0x0F900090 = 0x01000080
    | .multiplyAccumulate => w &&& 0x0F0000F0 = 0x00000090
    | .synchronizationPrimitives => w &&& 0x0F0000F0 = 0x01000090
    | .extraLoadStore =>
      (w &&& 0x0E0000F0 = 0x000000B0 ∨ w &&& 0x0E0000D0 = 0x000000D0) ∧ ¬ w &&& 0x01200000 = 0x00200000
    | .extraLoadStoreUnprivileged => w &&& 0x0F2000F0 = 0x002000B0 ∨ w &&& 0x0F2000D0 = 0x002000D0
    | .dataProcessingImmediate => w &&& 0x0E000000 = 0x02000000 ∧ ¬ w &&& 0x01900000 = 0x01000000
    | .movImmediate16 => w &&& 0x0FF00000 = 0x03000000
    | .movTopImmediate16 => w &&& 0x0FF00000 = 0x03400000
    | .msrImmediateHints => w &&& 0x0FB00000 = 0x03200000

/-- decode_data_processing_subform(w) is None when w[27:26] is not 00, and on every word equals the sub-form of
the row of the 22-row table the word matches; no word matches two rows; subform_valid and subform_id follow
it; the two examples of the rule hold. (R194) -/
def Obligations.SubformDecodeIsTheRowTable : Prop :=
    (∀ w : Word, w.extractLsb 27 26 ≠ 0b00#2 → decodeSubform w = none) ∧
    (∀ w : Word, decodeSubform w = (subformRows.find? fun r => w &&& r.mask == r.value).map (·.form)) ∧
    subformRows.Pairwise (fun a b => ∀ w : Word, ¬ (w &&& a.mask = a.value ∧ w &&& b.mask = b.value)) ∧
    (∀ w : Word, decodeSubform w = (matchingForms w).head?) ∧
    (∀ (p : Class11xPolicy) (w : Word),
      (decodeGroup p w).subformValid = (decodeSubform w).isSome ∧
      (decodeGroup p w).subformId = match decodeSubform w with
        | some f => formId f
        | none => 0#4) ∧
    subformRows.length = 22 ∧ decodeSubform 0xE0000000 = some .dataProcessingRegister ∧
    decodeSubform 0xE4000000 = none

/-- For every word with w[27:26] = 00 exactly one of the twelve predicates is true, so
decode_data_processing_subform returns Some; over the 1024 keys the twelve sub-forms match 224, 112, 32, 16,
16, 16, 72, 24, 448, 16, 16 and 32 keys. (R196) -/
def Obligations.SubformExactlyOnePredicate : Prop :=
    (∀ w : Word, w.extractLsb 27 26 = 0b00#2 →
      ∃ f, matchingForms w = [f] ∧ decodeSubform w = some f ∧
        ∀ g, formPredicate g (dpOp w) (dpOp1 w) (dpOp2 w) = true ↔ g = f) ∧
    allForms.map (fun f => (List.range 1024).countP fun k =>
        formPredicate f (BitVec.ofNat 1 (k / 512)) (BitVec.ofNat 5 (k / 16 % 32)) (BitVec.ofNat 4 (k % 16))) =
      [224, 112, 32, 16, 16, 16, 72, 24, 448, 16, 16, 32]

/-- For every word and policy, subform_conflict is 1 iff two or more sub-form predicates match the word under the
class gate, the sub-form reported is the first of them in priority order, and the output is in fact 0 for
every word; err_subform is 0 for every word and is (w[27:26] = 00) AND NOT subform_valid. That the predicates
are counted together with the class gate is the model's reading of R195, which names no gate
(notes/assumptions/16.md). (spec/43_dp_subform.md section 3 (R195, R196), spec/43_dp_subform.md section 4
(R200), notes/assumptions/16.md) -/
def Obligations.SubformConflictReport : Prop :=
    ∀ (p : Class11xPolicy) (w : Word),
    ((decodeGroup p w).subformConflict = true ↔
      w.extractLsb 27 26 = 0b00#2 ∧
        2 ≤ allForms.countP fun f => formPredicate f (dpOp w) (dpOp1 w) (dpOp2 w)) ∧
    decodeSubform w = (if w.extractLsb 27 26 = 0b00#2 then
        allForms.find? fun f => formPredicate f (dpOp w) (dpOp1 w) (dpOp2 w) else none) ∧
    (decodeGroup p w).subformConflict = false ∧
    (decodeGroup p w).errSubform = (w.extractLsb 27 26 == 0b00#2 && !(decodeGroup p w).subformValid) ∧
    (decodeGroup p w).errSubform = false

/-- encode_data_processing_subform(f, w) is (w AND NOT EM_f) OR EV_f with the twelve masks and values of the
rule's table; it differs from w only inside EM_f; it decodes to Some(f) iff w[27:26] = 00 and the result is
not in f's exclusion (10xx0 for the three data-processing forms, 0xx1x for ExtraLoadStore, none for the other
eight); for w[27:26] = 00, a result in f's exclusion decodes to Some(g) for a g other than f;
encode(MovImmediate16, 0xFFFFFFFF) = 0xFF0FFFFF; encode(DataProcessingRegister, 0x01000000) = 0x01000000
decodes as Miscellaneous. (R197, R198) -/
def Obligations.SubformEncodeOverlayAndRoundTrip : Prop :=
    (∀ (f : DataProcessingForm) (w : Word), encodeSubform f w = (w &&& ~~~(encodeMask f)) ||| encodeValue f) ∧
    allForms.map (fun f => (encodeMask f, encodeValue f)) =
      [(0x02000010, 0x00000000), (0x02000090, 0x00000010), (0x03900080, 0x01000000), (0x03900090, 0x01000080),
        (0x030000F0, 0x00000090), (0x030000F0, 0x01000090), (0x020000F0, 0x000000B0), (0x032000F0, 0x002000B0),
        (0x02000000, 0x02000000), (0x03F00000, 0x03000000), (0x03F00000, 0x03400000), (0x03B00000, 0x03200000)] ∧
    encodeSubform .movImmediate16 0xFFFFFFFF = 0xFF0FFFFF ∧
    (∀ (f : DataProcessingForm) (w : Word), encodeSubform f w &&& ~~~(encodeMask f) = w &&& ~~~(encodeMask f)) ∧
    (∀ (f : DataProcessingForm) (w : Word), decodeSubform (encodeSubform f w) = some f ↔
      w.extractLsb 27 26 = 0b00#2 ∧
      match f with
      | .dataProcessingRegister => ¬ encodeSubform f w &&& 0x01900000 = 0x01000000
      | .dataProcessingRegisterShifted => ¬ encodeSubform f w &&& 0x01900000 = 0x01000000
      | .dataProcessingImmediate => ¬ encodeSubform f w &&& 0x01900000 = 0x01000000
      | .extraLoadStore => ¬ encodeSubform f w &&& 0x01200000 = 0x00200000
      | _ => True) ∧
    (∀ (f : DataProcessingForm) (w : Word), w.extractLsb 27 26 = 0b00#2 →
      (match f with
      | .dataProcessingRegister => encodeSubform f w &&& 0x01900000 = 0x01000000
      | .dataProcessingRegisterShifted => encodeSubform f w &&& 0x01900000 = 0x01000000
      | .dataProcessingImmediate => encodeSubform f w &&& 0x01900000 = 0x01000000
      | .extraLoadStore => encodeSubform f w &&& 0x01200000 = 0x00200000
      | _ => False) →
      ∃ g, g ≠ f ∧ decodeSubform (encodeSubform f w) = some g) ∧
    encodeSubform .dataProcessingRegister 0x01000000 = 0x01000000 ∧
    decodeSubform 0x01000000 = some .miscellaneous

/-- For every word with a valid condition whose sub-form is DataProcessingRegister, DataProcessingRegisterShifted
or DataProcessingImmediate, decode_instruction is entry w[24:21] of And, Eor, Sub, Rsb, Add, Adc, Sbc, Rsc,
Tst, Teq, Cmp, Cmn, Orr, Mov, Bic, Mvn, under both policies; for the other nine sub-forms it is Undefined(w).
(R223) -/
def Obligations.DataProcessingOpcodeTable : Prop :=
    ∀ (p : Class11xPolicy) (w : Word) (f : DataProcessingForm),
    w.extractLsb 31 28 ≠ 0b1111#4 → decodeSubform w = some f →
    if f = .dataProcessingRegister ∨ f = .dataProcessingRegisterShifted ∨ f = .dataProcessingImmediate then
      [Mnemonic.and, .eor, .sub, .rsb, .add, .adc, .sbc, .rsc, .tst, .teq, .cmp, .cmn, .orr, .mov, .bic,
        .mvn][(w.extractLsb 24 21).toNat]? = some (decodeInstruction p w)
    else decodeInstruction p w = .undefined w

/-- Every word that decodes to a test mnemonic has bit 20 = 1; a test opcode with S = 0 in a DataProcessing word
gives Undefined(w); encode_instruction writes bit 20 = 1 for the four test mnemonics and keeps ob[20] for the
other twelve; decoding a word with bit 20 changed gives the same mnemonic whenever both resolve.
(spec/44_mnemonic.md section 1 (the S bit)) -/
def Obligations.TestMnemonicsCarryS : Prop :=
    (∀ (p : Class11xPolicy) (w : Word), decodeInstruction p w ∈ [Mnemonic.tst, .teq, .cmp, .cmn] →
      w.getLsbD 20 = true) ∧
    (∀ (p : Class11xPolicy) (w : Word), w.extractLsb 27 26 = 0b00#2 → w.extractLsb 24 23 = 0b10#2 →
      w.getLsbD 20 = false →
      decodeInstruction p w = .undefined w ∧
        decodeSubform w ≠ some .dataProcessingRegister ∧ decodeSubform w ≠ some .dataProcessingRegisterShifted ∧
        decodeSubform w ≠ some .dataProcessingImmediate) ∧
    (∀ (m : Mnemonic) (ob : Word), m ∈ [Mnemonic.tst, .teq, .cmp, .cmn] →
      (encodeInstruction m ob).getLsbD 20 = true) ∧
    (∀ (m : Mnemonic) (ob : Word),
      m ∈ [Mnemonic.and, .eor, .sub, .rsb, .add, .adc, .sbc, .rsc, .orr, .mov, .bic, .mvn] →
      (encodeInstruction m ob).getLsbD 20 = ob.getLsbD 20) ∧
    ∀ (p : Class11xPolicy) (w : Word) (f : BitVec 1), w.extractLsb 27 26 = 0b00#2 →
      decodeInstruction p w = .undefined w ∨
      decodeInstruction p (putBits w 20 f) = .undefined (putBits w 20 f) ∨
      decodeInstruction p (putBits w 20 f) = decodeInstruction p w

/-- For every word with a valid condition: a LoadStore word (w[27:25] = 010) is Ldr, Str, Ldrb or Strb by bits 20
and 22; a Branch word (w[27:26] = 10) is Bl when bit 24 is 1 and B otherwise; a word with w[27:26] = 11 is
Swi(w[23:0]) under SupervisorCall and Undefined(w) under Reject. (R224, R225, R226) -/
def Obligations.LoadStoreBranchSwiResolution : Prop :=
    ∀ (p : Class11xPolicy) (w : Word), w.extractLsb 31 28 ≠ 0b1111#4 →
    (w.extractLsb 27 25 = 0b010#3 → decodeInstruction p w =
      match w.getLsbD 22, w.getLsbD 20 with
      | false, true => .ldr
      | false, false => .str
      | true, true => .ldrb
      | true, false => .strb) ∧
    (w.extractLsb 27 26 = 0b10#2 → decodeInstruction p w = if w.getLsbD 24 then .bl else .b) ∧
    (w.extractLsb 27 26 = 0b11#2 → decodeInstruction p w =
      match p with
      | .supervisorCall => .swi (w.extractLsb 23 0)
      | .reject => .undefined w)

/-- decode_instruction(w) is Undefined(u) iff u = w and one of: (a) w[31:28] = 1111; (b) policy Reject and
w[27:26] = 11; (c) a DataProcessing word of one of the nine unresolved sub-forms; (d) w[27:25] = 011 and w[4]
= 0; (e) w[27:25] = 011 and w[4] = 1. (R227) -/
def Obligations.UndefinedExactlyInFiveCases : Prop :=
    ∀ (p : Class11xPolicy) (w u : Word), decodeInstruction p w = .undefined u ↔
    u = w ∧ (w.extractLsb 31 28 = 0b1111#4 ∨
      (p = .reject ∧ w.extractLsb 27 26 = 0b11#2) ∨
      (∃ f, decodeSubform w = some f ∧ f ≠ .dataProcessingRegister ∧ f ≠ .dataProcessingRegisterShifted ∧
        f ≠ .dataProcessingImmediate) ∨
      (w.extractLsb 27 25 = 0b011#3 ∧ w.getLsbD 4 = false) ∨
      (w.extractLsb 27 25 = 0b011#3 ∧ w.getLsbD 4 = true))

/-- For every word and policy: a word that matches a row of the opcode table (mask, match, condition exclusion,
and the policy of the Swi row) resolves to that row's mnemonic and, for a data-processing row, to its sub-
form; a word that matches no row resolves to Undefined(w); and no word matches two of the 55 rows. (R67) -/
def Obligations.OpcodeTableEqualsResolver : Prop :=
    opcodeTable.length = 55 ∧
    (∀ (p : Class11xPolicy) (w : Word), ∀ r ∈ opcodeTable, r.matchesWord p w = true →
      mnemonicId (decodeInstruction p w) = r.id ∧ (r.form ≠ none → decodeSubform w = r.form)) ∧
    (∀ (p : Class11xPolicy) (w : Word), (∀ r ∈ opcodeTable, r.matchesWord p w = false) →
      decodeInstruction p w = .undefined w) ∧
    opcodeTable.Pairwise fun a b => ∀ (p : Class11xPolicy) (w : Word),
      ¬ (a.matchesWord p w = true ∧ b.matchesWord p w = true)

/-- For every operand word ob: a data-processing mnemonic with opcode k gives condition 1110, class 00, the form
bits chosen by ob[25] and ob[4], opcode k and, for test opcodes, S = 1; Ldr, Str, Ldrb, Strb give 1110, 010, L
and B; B and Bl give 1110, 101 and the link bit; Swi(i) gives 0xEF000000 with i; Undefined(u) gives u; every
bit outside the family's list of written bits is copied from ob. (R228) -/
def Obligations.EncodeInstructionFields : Prop :=
    (∀ (k : BitVec 4) (ob : Word), encodeInstruction (dpMnemonic k) ob =
      ((if ob.getLsbD 25 then (ob &&& 0x001FFFFF) ||| 0xE2000000
        else if ob.getLsbD 4 then (ob &&& 0x001FFF6F) ||| 0xE0000010
        else (ob &&& 0x001FFFEF) ||| 0xE0000000) ||| (k.setWidth 32 <<< 21)) |||
        (if 8 ≤ k.toNat ∧ k.toNat ≤ 11 then 0x00100000 else 0)) ∧
    (∀ ob : Word,
      encodeInstruction .ldr ob = (ob &&& 0x01AFFFFF) ||| 0xE4100000 ∧
      encodeInstruction .str ob = (ob &&& 0x01AFFFFF) ||| 0xE4000000 ∧
      encodeInstruction .ldrb ob = (ob &&& 0x01AFFFFF) ||| 0xE4500000 ∧
      encodeInstruction .strb ob = (ob &&& 0x01AFFFFF) ||| 0xE4400000 ∧
      encodeInstruction .b ob = (ob &&& 0x00FFFFFF) ||| 0xEA000000 ∧
      encodeInstruction .bl ob = (ob &&& 0x00FFFFFF) ||| 0xEB000000) ∧
    (∀ (i : BitVec 24) (ob : Word), encodeInstruction (.swi i) ob = 0xEF000000 ||| i.setWidth 32) ∧
    (∀ u ob : Word, encodeInstruction (.undefined u) ob = u) ∧
    ∀ (m : Mnemonic) (ob : Word) (q : Nat), q < 32 → (writtenMask m ob).getLsbD q = false →
      (encodeInstruction m ob).getLsbD q = ob.getLsbD q

/-- If ob[25] = 1 the form is DataProcessingImmediate, otherwise DataProcessingRegisterShifted if ob[4] = 1,
otherwise DataProcessingRegister; the register-shifted form has bit 7 = 0; the encoded word never has w[24:20]
= 10xx0, and it decodes to the chosen form and to the same mnemonic. (R229) -/
def Obligations.EncodedFormIsTheChosenForm : Prop :=
    ∀ (p : Class11xPolicy) (k : BitVec 4) (ob : Word),
    dpForm ob = (if ob.getLsbD 25 then .dataProcessingImmediate
      else if ob.getLsbD 4 then .dataProcessingRegisterShifted else .dataProcessingRegister) ∧
    (dpForm ob = .dataProcessingRegisterShifted → (encodeInstruction (dpMnemonic k) ob).getLsbD 7 = false) ∧
    encodeInstruction (dpMnemonic k) ob &&& 0x01900000 ≠ 0x01000000 ∧
    decodeSubform (encodeInstruction (dpMnemonic k) ob) = some (dpForm ob) ∧
    decodeInstruction p (encodeInstruction (dpMnemonic k) ob) = dpMnemonic k

/-- For every mnemonic m other than Undefined and every ob, decode_instruction(encode_instruction(m, ob)) = m
under SupervisorCall, and under Reject for every m other than Swi. For a word that resolves to m,
encode_instruction(m, w) = w iff w[31:28] = 1110 and m is a data-processing or LoadStore mnemonic, or B or Bl
with w[25] = 1, or Swi with w[27:25] = 111 and w[24] = 1. (R254) -/
def Obligations.MnemonicRoundTrip : Prop :=
    (∀ (m : Mnemonic) (ob : Word), (∀ u, m ≠ .undefined u) →
      decodeInstruction .supervisorCall (encodeInstruction m ob) = m) ∧
    (∀ (m : Mnemonic) (ob : Word), (∀ u, m ≠ .undefined u) → (∀ i, m ≠ .swi i) →
      decodeInstruction .reject (encodeInstruction m ob) = m) ∧
    ∀ (p : Class11xPolicy) (w : Word), (∀ u, decodeInstruction p w ≠ .undefined u) →
      (encodeInstruction (decodeInstruction p w) w = w ↔
        w.extractLsb 31 28 = 0b1110#4 ∧
          match decodeInstruction p w with
          | .b => w.getLsbD 25 = true
          | .bl => w.getLsbD 25 = true
          | .swi _ => w.extractLsb 27 25 = 0b111#3 ∧ w.getLsbD 24 = true
          | _ => True)

/-- encode_instruction(Undefined(u), ob) = u and decode_instruction(encode_instruction(Undefined(u), ob)) =
decode_instruction(u), which is Undefined(u) only if u does not resolve; 0xE0000000 decodes as And, 0xF0000000
as Undefined(0xF0000000), 0xE8000000 as B, 0xE6000010 as Undefined(0xE6000010). (R253) -/
def Obligations.UndefinedReencodesItsWord : Prop :=
    (∀ u ob : Word, encodeInstruction (.undefined u) ob = u) ∧
    (∀ (p : Class11xPolicy) (u ob : Word),
      decodeInstruction p (encodeInstruction (.undefined u) ob) = decodeInstruction p u ∧
      (decodeInstruction p u = .undefined u ↔ ∃ v, decodeInstruction p u = .undefined v)) ∧
    ∀ p : Class11xPolicy,
      decodeInstruction p 0xE0000000 = .and ∧ decodeInstruction p 0xF0000000 = .undefined 0xF0000000 ∧
      decodeInstruction p 0xE8000000 = .b ∧ decodeInstruction p 0xE6000010 = .undefined 0xE6000010

/-- mnem_id is w[24:21] for a resolved data-processing form, 16 + (1 - L) + 2 B for LoadStore, 20 + w[24] for
Branch, 22 for Swi and 23 for Undefined; swi_imm24 is w[23:0] when mnem_id = 22 and 0 otherwise; undef_word is
w when mnem_id = 23 and 0 otherwise; word_out is w. (R255) -/
def Obligations.MnemonicSignals : Prop :=
    ∀ (p : Class11xPolicy) (w : Word),
    ((decodeGroup p w).mnemId.toNat =
      if w.extractLsb 31 28 = 0b1111#4 then 23
      else match decodeClass p w with
        | some .dataProcessing =>
          if decodeSubform w = some .dataProcessingRegister ∨ decodeSubform w = some .dataProcessingRegisterShifted ∨
              decodeSubform w = some .dataProcessingImmediate then (w.extractLsb 24 21).toNat
          else 23
        | some .loadStore => 16 + (1 - (w.getLsbD 20).toNat) + 2 * (w.getLsbD 22).toNat
        | some .branch => 20 + (w.getLsbD 24).toNat
        | some .supervisorCall => 22
        | _ => 23) ∧
    (decodeGroup p w).swiImm24 = (if (decodeGroup p w).mnemId = 22 then w.extractLsb 23 0 else 0#24) ∧
    (decodeGroup p w).undefWord = (if (decodeGroup p w).mnemId = 23 then w else 0#32) ∧
    (decodeGroup p w).wordOut = w

/-- err_cond = 1 iff w[31:28] = 1111, with cond_valid = 0 and cond_code = 0; err_class = 1 iff the policy is
Reject and w[27:26] = 11, with class_valid = 0 and class_id = 0; err_subform is 0 for every word, also for a
word of another class, whose subform_valid is 0; each of the first two errors makes decode_instruction
Undefined(w). (R301, R302, R303) -/
def Obligations.ErrorOutputsAndTheirCauses : Prop :=
    ∀ (p : Class11xPolicy) (w : Word),
    ((decodeGroup p w).errCond = true ↔ w.extractLsb 31 28 = 0b1111#4) ∧
    ((decodeGroup p w).errCond = true →
      decodeCondition w = none ∧ (decodeGroup p w).condValid = false ∧ (decodeGroup p w).condCode = 0#4 ∧
        decodeInstruction p w = .undefined w) ∧
    ((decodeGroup p w).errClass = true ↔ p = .reject ∧ w.extractLsb 27 26 = 0b11#2) ∧
    ((decodeGroup p w).errClass = true →
      decodeClass p w = none ∧ (decodeGroup p w).classValid = false ∧ (decodeGroup p w).classId = 0#3 ∧
        decodeInstruction p w = .undefined w) ∧
    (decodeGroup p w).errSubform = false ∧
    (w.extractLsb 27 26 ≠ 0b00#2 → (decodeGroup p w).subformValid = false ∧ (decodeGroup p w).subformId = 0#4)

/-- There are exactly four error kinds, with identifiers 1 to 4. decode_condition is None iff w[31:28] = 1111, and
then err_cond = 1; decode_class is None iff the policy is Reject and w[27:26] = 11, and then err_class = 1;
err_subform = 1 iff w[27:26] = 00 and no sub-form is decoded, iff w[27:26] = 00 and no predicate is true,
which is never. bf_read, bf_write and bf_match fault exactly on an invalid list P, with InvalidBitPosition(P),
the only fault there is; every list the block uses is valid and no step faults. An encode input outside its
enumeration names no value. The single error reported for a word is the first of UnrecognizedCondition,
UnrecognizedClass, UnrecognizedSubform whose output is 1, that is UnrecognizedCondition if w[31:28] = 1111,
else UnrecognizedClass if the policy is Reject and w[27:26] = 11, else none; any reported error means
Undefined(w), with w on undef_word and word_out. The five rows of the table of R306 hold, every error output
and the single error of each. (R300, R304, R306) -/
def Obligations.SingleErrorInDecodeOrder : Prop :=
    ((∀ k : ErrorKind, k ∈ [ErrorKind.unrecognizedCondition, .unrecognizedClass, .unrecognizedSubform,
        .invalidBitPosition]) ∧
      [ErrorKind.unrecognizedCondition, .unrecognizedClass, .unrecognizedSubform, .invalidBitPosition].map errorId =
        [1, 2, 3, 4]) ∧
    (∀ (p : Class11xPolicy) (w : Word),
      (decodeCondition w = none ↔ w.extractLsb 31 28 = 0b1111#4) ∧
      ((decodeGroup p w).errCond = true ↔ decodeCondition w = none) ∧
      (decodeClass p w = none ↔ p = .reject ∧ w.extractLsb 27 26 = 0b11#2) ∧
      ((decodeGroup p w).errClass = true ↔ decodeClass p w = none) ∧
      ((decodeGroup p w).errSubform = true ↔ w.extractLsb 27 26 = 0b00#2 ∧ decodeSubform w = none) ∧
      ((decodeGroup p w).errSubform = true ↔
        w.extractLsb 27 26 = 0b00#2 ∧ ∀ f, formPredicate f (dpOp w) (dpOp1 w) (dpOp2 w) = false) ∧
      (decodeGroup p w).errSubform = false) ∧
    (∀ (w : Word) (v e : Nat) (P : List Nat) (r : Fault),
      (bfRead w P = .error r ↔ positionsValid P = false ∧ r = .invalidBitPosition P) ∧
      (bfWrite w v P = .error r ↔ positionsValid P = false ∧ r = .invalidBitPosition P) ∧
      (bfMatch w P e = .error r ↔ positionsValid P = false ∧ r = .invalidBitPosition P)) ∧
    (∀ r : Fault, (∃ P, r = .invalidBitPosition P) ∧ faultKind r = .invalidBitPosition) ∧
    (∀ P ∈ constantLists, positionsValid P = true) ∧
    (∀ (s : State) (r : Fault), step s ≠ .fault r) ∧
    (conditionOfCode 0b1111#4 = none ∧ classOfId 6#3 = none ∧ classOfId 7#3 = none ∧
      (∀ k : BitVec 4, 12 ≤ k.toNat → formOfId k = none) ∧
      ∀ (k : BitVec 5) (imm : BitVec 24) (u : Word), 24 ≤ k.toNat → mnemonicOfPort k imm u = none) ∧
    (∀ (p : Class11xPolicy) (w : Word),
      singleError (decodeGroup p w) =
        (if (decodeGroup p w).errCond then some .unrecognizedCondition
        else if (decodeGroup p w).errClass then some .unrecognizedClass
        else if (decodeGroup p w).errSubform then some .unrecognizedSubform else none) ∧
      singleError (decodeGroup p w) =
        (if w.extractLsb 31 28 = 0b1111#4 then some .unrecognizedCondition
        else if p = .reject ∧ w.extractLsb 27 26 = 0b11#2 then some .unrecognizedClass else none)) ∧
    (∀ (p : Class11xPolicy) (w : Word) (e : ErrorKind), singleError (decodeGroup p w) = some e →
      decodeInstruction p w = .undefined w ∧ (decodeGroup p w).undefWord = w ∧ (decodeGroup p w).wordOut = w) ∧
    (∀ p : Class11xPolicy,
      (decodeGroup p 0xE0000000).errCond = false ∧ (decodeGroup p 0xE0000000).errClass = false ∧
      (decodeGroup p 0xE0000000).errSubform = false ∧ singleError (decodeGroup p 0xE0000000) = none ∧
      decodeInstruction p 0xE0000000 = .and) ∧
    (∀ p : Class11xPolicy,
      (decodeGroup p 0xF0000000).errCond = true ∧ (decodeGroup p 0xF0000000).errClass = false ∧
      (decodeGroup p 0xF0000000).errSubform = false ∧
      singleError (decodeGroup p 0xF0000000) = some .unrecognizedCondition) ∧
    ((decodeGroup .reject 0xEE000000).errCond = false ∧ (decodeGroup .reject 0xEE000000).errClass = true ∧
      (decodeGroup .reject 0xEE000000).errSubform = false ∧
      singleError (decodeGroup .reject 0xEE000000) = some .unrecognizedClass) ∧
    ((decodeGroup .supervisorCall 0xEE000000).errCond = false ∧
      (decodeGroup .supervisorCall 0xEE000000).errClass = false ∧
      (decodeGroup .supervisorCall 0xEE000000).errSubform = false ∧
      singleError (decodeGroup .supervisorCall 0xEE000000) = none ∧
      decodeInstruction .supervisorCall 0xEE000000 = .swi 0) ∧
    (decodeGroup .reject 0xFE000000).errCond = true ∧ (decodeGroup .reject 0xFE000000).errClass = true ∧
    (decodeGroup .reject 0xFE000000).errSubform = false ∧
    singleError (decodeGroup .reject 0xFE000000) = some .unrecognizedCondition

/-- enc_cond_in = 1111, enc_class_in = 6 or 7, enc_subform_in = 12 to 15 and enc_mnem_in = 24 to 31 are refused on
their own port, each by its name and with no word; every other input is driven. The decode outputs never carry
an identifier that names no variant. That the refusal stands on the input's own output port, under a name of
its own, while the other ports are driven is the model's reading (notes/assumptions/7.md).
(spec/60_exceptions.md section 1 (R305), spec/41_condition.md section 2 (R125), spec/42_class.md section 3
(R157), spec/43_dp_subform.md section 4 (R199), spec/44_mnemonic.md section 4 (R256), notes/assumptions/7.md) -/
def Obligations.EncodePortsRefuseUnnamedInputs : Prop :=
    ∀ e : EncodeInputs,
    ((encodeGroup e).condOut = .refused .encCondIn ↔ e.condIn = 0b1111#4) ∧
    (e.condIn ≠ 0b1111#4 → (encodeGroup e).condOut = .driven e.condIn) ∧
    ((encodeGroup e).classWordOut = .refused .encClassIn ↔ e.classIn = 6#3 ∨ e.classIn = 7#3) ∧
    (e.classIn ≠ 6#3 ∧ e.classIn ≠ 7#3 →
      ∃ c, classId c = e.classIn ∧ (encodeGroup e).classWordOut = .driven (encodeClass c e.classWordIn)) ∧
    ((encodeGroup e).subformWordOut = .refused .encSubformIn ↔ 12 ≤ e.subformIn.toNat) ∧
    (e.subformIn.toNat < 12 →
      ∃ f, formId f = e.subformIn ∧ (encodeGroup e).subformWordOut = .driven (encodeSubform f e.subformWordIn)) ∧
    ((encodeGroup e).wordOut = .refused .encMnemIn ↔ 24 ≤ e.mnemIn.toNat) ∧
    (e.mnemIn.toNat < 24 →
      ∃ m, mnemonicId m = e.mnemIn ∧ (encodeGroup e).wordOut = .driven (encodeInstruction m e.operandBits)) ∧
    ∀ (p : Class11xPolicy) (w : Word), IdsNamed (decodeGroup p w)

/-- enc_mnem_in values 24 to 31 are refused; enc_word_out does not depend on enc_swi_imm24 unless enc_mnem_in =
22, nor on enc_undef_word unless enc_mnem_in = 23; for 22 it encodes Swi of that immediate and for 23 it is
that word. (R256) -/
def Obligations.EncodePayloadPortsAreSelected : Prop :=
    (∀ (k : BitVec 5) (imm : BitVec 24) (u ob : Word), 24 ≤ k.toNat →
      encodeMnemonicPort k imm u ob = .refused .encMnemIn) ∧
    (∀ (k : BitVec 5) (imm imm' : BitVec 24) (u ob : Word), k ≠ 22 →
      encodeMnemonicPort k imm u ob = encodeMnemonicPort k imm' u ob) ∧
    (∀ (k : BitVec 5) (imm : BitVec 24) (u u' ob : Word), k ≠ 23 →
      encodeMnemonicPort k imm u ob = encodeMnemonicPort k imm u' ob) ∧
    ∀ (imm : BitVec 24) (u ob : Word),
      encodeMnemonicPort 22 imm u ob = .driven (0xEF000000 ||| imm.setWidth 32) ∧
      encodeMnemonicPort 23 imm u ob = .driven u

/-- For every policy and every well-formed instruction of the 55 rows, with every condition, S bit and operand at
every value, decode of encode of the instruction is that instruction. (spec/30_encoding.md sections 2 and 3
(formats and operand bits), spec/opcode_table.json) -/
def Obligations.DecodeOfEncodeIsTheInstruction : Prop :=
    ∀ (p : Class11xPolicy) (i : Instr), i.wf p = true → decode p (encode i) = .ok i

/-- For every policy and word, if decode gives an instruction i, then i is well-formed under the policy and encode
i is the word, bit for bit. (spec/30_encoding.md sections 2 and 3 (formats and operand bits)) -/
def Obligations.EncodeOfDecodeIsTheWord : Prop :=
    ∀ (p : Class11xPolicy) (w : Word) (i : Instr), decode p w = .ok i → encode i = w ∧ i.wf p = true

/-- For every policy and word: if decode gives instruction i, decode_instruction gives i's mnemonic,
decode_condition its condition; and decode rejects the word exactly when decode_instruction is Undefined(w).
That Undefined is no instruction of the decoder, so that decode rejects exactly these words, is the model's
reading (notes/assumptions/8.md). (spec/44_mnemonic.md section 1 (Resolution), spec/30_encoding.md section 4
(Opcode map), notes/assumptions/8.md) -/
def Obligations.DecoderAgreesWithResolver : Prop :=
    ∀ (p : Class11xPolicy) (w : Word),
    (∀ i, decode p w = .ok i → decodeInstruction p w = instrMnemonic i ∧ decodeCondition w = some (instrCondition i)) ∧
    ((∃ r, decode p w = .error r) ↔ decodeInstruction p w = .undefined w)

/-- For every policy and word: decode rejects with unrecognizedCondition iff w[31:28] = 1111; otherwise with
unrecognizedClass iff the policy is Reject and w[27:26] = 11, with unresolvedSubform iff the word is a
DataProcessing word of an unresolved sub-form, with loadStoreMultiple iff w[27:25] = 011 and w[4] = 0, with
media iff w[27:25] = 011 and w[4] = 1; never with truncated. A decoder that rejects each case of Undefined by
a name of its own, and those names, are the model's choice (notes/assumptions/8.md), as is the name truncated
of a decoder over bytes (notes/assumptions/13.md). (spec/44_mnemonic.md section 1 (Undefined fallback),
notes/assumptions/8.md, notes/assumptions/13.md) -/
def Obligations.DecoderRejectsByName : Prop :=
    ∀ (p : Class11xPolicy) (w : Word),
    (decode p w = .error .unrecognizedCondition ↔ w.extractLsb 31 28 = 0b1111#4) ∧
    (decode p w = .error .unrecognizedClass ↔
      w.extractLsb 31 28 ≠ 0b1111#4 ∧ p = .reject ∧ w.extractLsb 27 26 = 0b11#2) ∧
    (decode p w = .error .unresolvedSubform ↔
      w.extractLsb 31 28 ≠ 0b1111#4 ∧ ∃ f, decodeSubform w = some f ∧ f ≠ .dataProcessingRegister ∧
        f ≠ .dataProcessingRegisterShifted ∧ f ≠ .dataProcessingImmediate) ∧
    (decode p w = .error .loadStoreMultiple ↔
      w.extractLsb 31 28 ≠ 0b1111#4 ∧ w.extractLsb 27 25 = 0b011#3 ∧ w.getLsbD 4 = false) ∧
    (decode p w = .error .media ↔
      w.extractLsb 31 28 ≠ 0b1111#4 ∧ w.extractLsb 27 25 = 0b011#3 ∧ w.getLsbD 4 = true) ∧
    decode p w ≠ .error .truncated

/-- Under CLASS_11X_POLICY = SupervisorCall, 0xE0812003 is Add in the register form, 0xE0812413 Add in the
register-shifted form, 0xE3A00001 Mov in the immediate form, 0xE5912000 Ldr, 0xE8BD8000 B with class code 100,
0xEB000000 Bl, 0xECABCDEF Swi(0xABCDEF), each with the operand bits written in the word.
(spec/95_test_vectors.md Part 3 (table V-M1: the other six words), spec/95_test_vectors.md Part 2 (table V-S1:
0xE0812413), spec/43_dp_subform.md section 2 (R183: 0xE0812413), spec/30_encoding.md section 2 (R63: the
operand bits)) -/
def Obligations.DecodedWordsFromTheSpec : Prop :=
    decode .supervisorCall 0xE0812003 = .ok (.addRegister .al 0 0x900 0x3) ∧
    decode .supervisorCall 0xE0812413 = .ok (.addRegisterShifted .al 0 0x124 0 0x3) ∧
    decode .supervisorCall 0xE3A00001 = .ok (.movImmediate .al 0 0x00001) ∧
    decode .supervisorCall 0xE5912000 = .ok (.ldr .al 0b11 0 0x12000) ∧
    decode .supervisorCall 0xE8BD8000 = .ok (.b .al 0 0xBD8000) ∧
    decode .supervisorCall 0xEB000000 = .ok (.bl .al 1 0) ∧
    decode .supervisorCall 0xECABCDEF = .ok (.swi .al 0b00 0xABCDEF)

/-- If decoding a run of bytes gives an instruction, the run is four bytes and the rest handed back, the
instruction is what the word built from the four bytes decodes to, and it encodes to that word; a run of four
or more bytes whose word is rejected is rejected by the same name; a run of fewer than four bytes is rejected
as truncated. The word built has the first byte in bits 7:0, the second in 15:8, the third in 23:16 and the
fourth in 31:24 in little-endian order, and the reverse in big-endian order; a fetch of four bytes drives
dec_word with it and changes nothing else. The decoder over bytes and its rejection as truncated are the
model's choice (notes/assumptions/13.md), and so are the two byte orders (notes/assumptions/2.md).
(spec/30_encoding.md section 1 (Length), spec/00_scope.md section 3 (R7), notes/assumptions/2.md,
notes/assumptions/13.md) -/
def Obligations.DecodeBytesConsumesOneWord : Prop :=
    (∀ (p : Class11xPolicy) (o : FetchByteOrder) (bs : List Byte),
      (∀ i rest, decodeBytes p o bs = .ok (i, rest) →
        ∃ b0 b1 b2 b3, bs = b0 :: b1 :: b2 :: b3 :: rest ∧ decode p (wordOfBytes o b0 b1 b2 b3) = .ok i ∧
          encode i = wordOfBytes o b0 b1 b2 b3) ∧
      (∀ b0 b1 b2 b3 rest r, bs = b0 :: b1 :: b2 :: b3 :: rest → decode p (wordOfBytes o b0 b1 b2 b3) = .error r →
        decodeBytes p o bs = .error r) ∧
      (decodeBytes p o bs = .error .truncated ↔ bs.length < 4)) ∧
    (∀ b0 b1 b2 b3 : Byte,
      (wordOfBytes .littleEndian b0 b1 b2 b3).extractLsb 7 0 = b0 ∧
      (wordOfBytes .littleEndian b0 b1 b2 b3).extractLsb 15 8 = b1 ∧
      (wordOfBytes .littleEndian b0 b1 b2 b3).extractLsb 23 16 = b2 ∧
      (wordOfBytes .littleEndian b0 b1 b2 b3).extractLsb 31 24 = b3 ∧
      (wordOfBytes .bigEndian b0 b1 b2 b3).extractLsb 31 24 = b0 ∧
      (wordOfBytes .bigEndian b0 b1 b2 b3).extractLsb 23 16 = b1 ∧
      (wordOfBytes .bigEndian b0 b1 b2 b3).extractLsb 15 8 = b2 ∧
      (wordOfBytes .bigEndian b0 b1 b2 b3).extractLsb 7 0 = b3) ∧
    ∀ (s : State) (b0 b1 b2 b3 : Byte),
      s.driveFetchBytes b0 b1 b2 b3 = { s with decWord := wordOfBytes s.params.fetchByteOrder b0 b1 b2 b3 }

/-- For every state whose dec_word decodes, under the state's policy, to a well-formed instruction i, step of the
state is exec of i at the state; nothing else is done around it. (spec/44_mnemonic.md section 1 (Resolution)) -/
def Obligations.StepRunsTheDecodedInstruction : Prop :=
    ∀ (s : State) (i : Instr), i.wf s.params.class11xPolicy = true →
    decode s.params.class11xPolicy s.decWord = .ok i → step s = exec i s

/-- For every state s and well-formed instruction i, the step of s with encode i placed on dec_word is exec of i
at that state, and the placement changes nothing but dec_word. That the host's placement is a drive of
dec_word, which the very next step evaluates, is the model's reading (notes/assumptions/6.md).
(spec/10_state.md section 3 (Ports), notes/assumptions/6.md) -/
def Obligations.PlacedWordIsTheNextInstruction : Prop :=
    ∀ (s : State) (i : Instr), i.wf s.params.class11xPolicy = true →
    step (s.withFetchWord 32 (encode i).toNat) = exec i (s.withFetchWord 32 (encode i).toNat) ∧
    s.withFetchWord 32 (encode i).toNat = { s with decWord := encode i }

/-- For every instruction i of the 55 rows and every state s, under both policies, exec i s is the next state in
which the decode outputs are the port functions of the word encode i (condition, class, sub-form, conflict,
errors, mnemonic, payloads), the encode outputs are those of the encode inputs, and the parameters and inputs
are unchanged. The case of a Swi term under Reject, which is not well-formed there, is the model's reading
(notes/assumptions/11.md). (spec/10_state.md section 3 (Ports), spec/44_mnemonic.md section 3 (one rule per
mnemonic), notes/assumptions/11.md) -/
def Obligations.InstructionMeaningsAreThePortFunctions : Prop :=
    ∀ (i : Instr) (s : State), exec i s = .next
    { params := s.params, decWord := s.decWord, encIn := s.encIn
      decOut := decodeGroup s.params.class11xPolicy (encode i), encOut := encodeGroup s.encIn }

/-- For every state s, step s is a next state whose decode outputs are the port functions of dec_word, whose
encode outputs are those of the encode inputs, and whose parameters and inputs are unchanged; no word, policy
or input makes a step fault or refuse. That a refused encode input is held on its own port and does not stop
the step is the model's reading (notes/assumptions/7.md). (spec/10_state.md sections 1 and 3 (Storage, Ports),
spec/70_reset_and_hazards.md section 3 (Timing), notes/assumptions/7.md) -/
def Obligations.StepComputesEveryPort : Prop :=
    ∀ s : State, step s = .next
    { params := s.params, decWord := s.decWord, encIn := s.encIn
      decOut := decodeGroup s.params.class11xPolicy s.decWord, encOut := encodeGroup s.encIn }

/-- For every state whose dec_word has condition 1111, or class code 11x under Reject, or class code 011, or is a
DataProcessing word of an unresolved sub-form, the step gives a next state with mnem_id = 23, undef_word =
word_out = dec_word, swi_imm24 = 0, and inputs and parameters unchanged. (spec/44_mnemonic.md section 1
(Undefined fallback), spec/60_exceptions.md section 3 (Traps)) -/
def Obligations.StepOnAnUndefinedWord : Prop :=
    ∀ s : State,
    (s.decWord.extractLsb 31 28 = 0b1111#4 ∨
      (s.params.class11xPolicy = .reject ∧ s.decWord.extractLsb 27 26 = 0b11#2) ∨
      s.decWord.extractLsb 27 25 = 0b011#3 ∨
      (∃ f, decodeSubform s.decWord = some f ∧ f ≠ .dataProcessingRegister ∧ f ≠ .dataProcessingRegisterShifted ∧
        f ≠ .dataProcessingImmediate)) →
    ∃ t, step s = .next t ∧ t.decOut.mnemId = 23#5 ∧ t.decOut.undefWord = s.decWord ∧ t.decOut.wordOut = s.decWord ∧
      t.decOut.swiImm24 = 0#24 ∧ t.encOut = encodeGroup s.encIn ∧ t.params = s.params ∧ t.decWord = s.decWord ∧
      t.encIn = s.encIn

/-- For every condition, S bit, operand bits and state, each of And, Eor, Sub, Rsb, Add, Adc, Sbc, Rsc, Tst, Teq,
Cmp, Cmn, Orr, Mov, Bic, Mvn in the register form answers the next state that reports cond_valid 1 and its
condition code, class_id 0, subform_id 0, no conflict, no error, mnem_id = its opcode (0 to 15 in that order),
zero payloads and its word on word_out, drives the encode outputs of the encode inputs, and leaves inputs and
parameters as they were. (spec/44_mnemonic.md section 3 (one rule per mnemonic), spec/10_state.md sections 2
and 3 (identifiers, ports)) -/
def Obligations.RegisterFormsComplete : Prop :=
    ∀ (c : Condition) (f : BitVec 1) (hi : BitVec 15) (lo : BitVec 4) (s : State),
    exec (.andRegister c f hi lo) s =
      .next (s.reporting c 0 (some 0) 0 0 (registerWord c 0b0000#4 f hi lo)) ∧
    exec (.eorRegister c f hi lo) s =
      .next (s.reporting c 0 (some 0) 1 0 (registerWord c 0b0001#4 f hi lo)) ∧
    exec (.subRegister c f hi lo) s =
      .next (s.reporting c 0 (some 0) 2 0 (registerWord c 0b0010#4 f hi lo)) ∧
    exec (.rsbRegister c f hi lo) s =
      .next (s.reporting c 0 (some 0) 3 0 (registerWord c 0b0011#4 f hi lo)) ∧
    exec (.addRegister c f hi lo) s =
      .next (s.reporting c 0 (some 0) 4 0 (registerWord c 0b0100#4 f hi lo)) ∧
    exec (.adcRegister c f hi lo) s =
      .next (s.reporting c 0 (some 0) 5 0 (registerWord c 0b0101#4 f hi lo)) ∧
    exec (.sbcRegister c f hi lo) s =
      .next (s.reporting c 0 (some 0) 6 0 (registerWord c 0b0110#4 f hi lo)) ∧
    exec (.rscRegister c f hi lo) s =
      .next (s.reporting c 0 (some 0) 7 0 (registerWord c 0b0111#4 f hi lo)) ∧
    exec (.tstRegister c hi lo) s =
      .next (s.reporting c 0 (some 0) 8 0 (registerWord c 0b1000#4 1#1 hi lo)) ∧
    exec (.teqRegister c hi lo) s =
      .next (s.reporting c 0 (some 0) 9 0 (registerWord c 0b1001#4 1#1 hi lo)) ∧
    exec (.cmpRegister c hi lo) s =
      .next (s.reporting c 0 (some 0) 10 0 (registerWord c 0b1010#4 1#1 hi lo)) ∧
    exec (.cmnRegister c hi lo) s =
      .next (s.reporting c 0 (some 0) 11 0 (registerWord c 0b1011#4 1#1 hi lo)) ∧
    exec (.orrRegister c f hi lo) s =
      .next (s.reporting c 0 (some 0) 12 0 (registerWord c 0b1100#4 f hi lo)) ∧
    exec (.movRegister c f hi lo) s =
      .next (s.reporting c 0 (some 0) 13 0 (registerWord c 0b1101#4 f hi lo)) ∧
    exec (.bicRegister c f hi lo) s =
      .next (s.reporting c 0 (some 0) 14 0 (registerWord c 0b1110#4 f hi lo)) ∧
    exec (.mvnRegister c f hi lo) s =
      .next (s.reporting c 0 (some 0) 15 0 (registerWord c 0b1111#4 f hi lo))

/-- For every condition, S bit, operand bits and state, each of And, Eor, Sub, Rsb, Add, Adc, Sbc, Rsc, Tst, Teq,
Cmp, Cmn, Orr, Mov, Bic, Mvn in the register-shifted form answers the next state that reports cond_valid 1 and
its condition code, class_id 0, subform_id 1, no conflict, no error, mnem_id = its opcode (0 to 15 in that
order), zero payloads and its word on word_out, drives the encode outputs of the encode inputs, and leaves
inputs and parameters as they were. (spec/44_mnemonic.md section 3 (one rule per mnemonic), spec/10_state.md
sections 2 and 3 (identifiers, ports)) -/
def Obligations.RegisterShiftedFormsComplete : Prop :=
    ∀ (c : Condition) (f : BitVec 1) (hi : BitVec 12) (mid : BitVec 2) (lo : BitVec 4) (s : State),
    exec (.andRegisterShifted c f hi mid lo) s =
      .next (s.reporting c 0 (some 1) 0 0 (registerShiftedWord c 0b0000#4 f hi mid lo)) ∧
    exec (.eorRegisterShifted c f hi mid lo) s =
      .next (s.reporting c 0 (some 1) 1 0 (registerShiftedWord c 0b0001#4 f hi mid lo)) ∧
    exec (.subRegisterShifted c f hi mid lo) s =
      .next (s.reporting c 0 (some 1) 2 0 (registerShiftedWord c 0b0010#4 f hi mid lo)) ∧
    exec (.rsbRegisterShifted c f hi mid lo) s =
      .next (s.reporting c 0 (some 1) 3 0 (registerShiftedWord c 0b0011#4 f hi mid lo)) ∧
    exec (.addRegisterShifted c f hi mid lo) s =
      .next (s.reporting c 0 (some 1) 4 0 (registerShiftedWord c 0b0100#4 f hi mid lo)) ∧
    exec (.adcRegisterShifted c f hi mid lo) s =
      .next (s.reporting c 0 (some 1) 5 0 (registerShiftedWord c 0b0101#4 f hi mid lo)) ∧
    exec (.sbcRegisterShifted c f hi mid lo) s =
      .next (s.reporting c 0 (some 1) 6 0 (registerShiftedWord c 0b0110#4 f hi mid lo)) ∧
    exec (.rscRegisterShifted c f hi mid lo) s =
      .next (s.reporting c 0 (some 1) 7 0 (registerShiftedWord c 0b0111#4 f hi mid lo)) ∧
    exec (.tstRegisterShifted c hi mid lo) s =
      .next (s.reporting c 0 (some 1) 8 0 (registerShiftedWord c 0b1000#4 1#1 hi mid lo)) ∧
    exec (.teqRegisterShifted c hi mid lo) s =
      .next (s.reporting c 0 (some 1) 9 0 (registerShiftedWord c 0b1001#4 1#1 hi mid lo)) ∧
    exec (.cmpRegisterShifted c hi mid lo) s =
      .next (s.reporting c 0 (some 1) 10 0 (registerShiftedWord c 0b1010#4 1#1 hi mid lo)) ∧
    exec (.cmnRegisterShifted c hi mid lo) s =
      .next (s.reporting c 0 (some 1) 11 0 (registerShiftedWord c 0b1011#4 1#1 hi mid lo)) ∧
    exec (.orrRegisterShifted c f hi mid lo) s =
      .next (s.reporting c 0 (some 1) 12 0 (registerShiftedWord c 0b1100#4 f hi mid lo)) ∧
    exec (.movRegisterShifted c f hi mid lo) s =
      .next (s.reporting c 0 (some 1) 13 0 (registerShiftedWord c 0b1101#4 f hi mid lo)) ∧
    exec (.bicRegisterShifted c f hi mid lo) s =
      .next (s.reporting c 0 (some 1) 14 0 (registerShiftedWord c 0b1110#4 f hi mid lo)) ∧
    exec (.mvnRegisterShifted c f hi mid lo) s =
      .next (s.reporting c 0 (some 1) 15 0 (registerShiftedWord c 0b1111#4 f hi mid lo))

/-- For every condition, S bit, operand bits and state, each of And, Eor, Sub, Rsb, Add, Adc, Sbc, Rsc, Tst, Teq,
Cmp, Cmn, Orr, Mov, Bic, Mvn in the immediate form answers the next state that reports cond_valid 1 and its
condition code, class_id 0, subform_id 8, no conflict, no error, mnem_id = its opcode (0 to 15 in that order),
zero payloads and its word on word_out, drives the encode outputs of the encode inputs, and leaves inputs and
parameters as they were. (spec/44_mnemonic.md section 3 (one rule per mnemonic), spec/10_state.md sections 2
and 3 (identifiers, ports)) -/
def Obligations.ImmediateFormsComplete : Prop :=
    ∀ (c : Condition) (f : BitVec 1) (lo : BitVec 20) (s : State),
    exec (.andImmediate c f lo) s =
      .next (s.reporting c 0 (some 8) 0 0 (immediateWord c 0b0000#4 f lo)) ∧
    exec (.eorImmediate c f lo) s =
      .next (s.reporting c 0 (some 8) 1 0 (immediateWord c 0b0001#4 f lo)) ∧
    exec (.subImmediate c f lo) s =
      .next (s.reporting c 0 (some 8) 2 0 (immediateWord c 0b0010#4 f lo)) ∧
    exec (.rsbImmediate c f lo) s =
      .next (s.reporting c 0 (some 8) 3 0 (immediateWord c 0b0011#4 f lo)) ∧
    exec (.addImmediate c f lo) s =
      .next (s.reporting c 0 (some 8) 4 0 (immediateWord c 0b0100#4 f lo)) ∧
    exec (.adcImmediate c f lo) s =
      .next (s.reporting c 0 (some 8) 5 0 (immediateWord c 0b0101#4 f lo)) ∧
    exec (.sbcImmediate c f lo) s =
      .next (s.reporting c 0 (some 8) 6 0 (immediateWord c 0b0110#4 f lo)) ∧
    exec (.rscImmediate c f lo) s =
      .next (s.reporting c 0 (some 8) 7 0 (immediateWord c 0b0111#4 f lo)) ∧
    exec (.tstImmediate c lo) s =
      .next (s.reporting c 0 (some 8) 8 0 (immediateWord c 0b1000#4 1#1 lo)) ∧
    exec (.teqImmediate c lo) s =
      .next (s.reporting c 0 (some 8) 9 0 (immediateWord c 0b1001#4 1#1 lo)) ∧
    exec (.cmpImmediate c lo) s =
      .next (s.reporting c 0 (some 8) 10 0 (immediateWord c 0b1010#4 1#1 lo)) ∧
    exec (.cmnImmediate c lo) s =
      .next (s.reporting c 0 (some 8) 11 0 (immediateWord c 0b1011#4 1#1 lo)) ∧
    exec (.orrImmediate c f lo) s =
      .next (s.reporting c 0 (some 8) 12 0 (immediateWord c 0b1100#4 f lo)) ∧
    exec (.movImmediate c f lo) s =
      .next (s.reporting c 0 (some 8) 13 0 (immediateWord c 0b1101#4 f lo)) ∧
    exec (.bicImmediate c f lo) s =
      .next (s.reporting c 0 (some 8) 14 0 (immediateWord c 0b1110#4 f lo)) ∧
    exec (.mvnImmediate c f lo) s =
      .next (s.reporting c 0 (some 8) 15 0 (immediateWord c 0b1111#4 f lo))

/-- For every condition, operand bits and state, Ldr, Str, Ldrb, Strb answer the next state that reports the
condition code, class_id 1, no sub-form, no error, mnem_id 16, 17, 18, 19, zero payloads and the word, drives
the encode outputs of the encode inputs, and leaves inputs and parameters as they were; no memory is accessed.
(spec/44_mnemonic.md section 3 (one rule per mnemonic), spec/10_state.md sections 2 and 3 (identifiers,
ports)) -/
def Obligations.LoadStoreInstructionsComplete : Prop :=
    ∀ (c : Condition) (hi : BitVec 2) (mid : BitVec 1) (lo : BitVec 20) (s : State),
    exec (.ldr c hi mid lo) s = .next (s.reporting c 1 none 16 0 (loadStoreWord c 1#1 0#1 hi mid lo)) ∧
    exec (.str c hi mid lo) s = .next (s.reporting c 1 none 17 0 (loadStoreWord c 0#1 0#1 hi mid lo)) ∧
    exec (.ldrb c hi mid lo) s = .next (s.reporting c 1 none 18 0 (loadStoreWord c 1#1 1#1 hi mid lo)) ∧
    exec (.strb c hi mid lo) s = .next (s.reporting c 1 none 19 0 (loadStoreWord c 0#1 1#1 hi mid lo))

/-- For every condition, bit 25, offset and state, B and Bl answer the next state that reports the condition code,
class_id 4, no sub-form, no error, mnem_id 20 and 21, zero payloads and the word, drives the encode outputs of
the encode inputs, and leaves inputs and parameters as they were; no target is computed. (spec/44_mnemonic.md
section 3 (one rule per mnemonic), spec/10_state.md sections 2 and 3 (identifiers, ports)) -/
def Obligations.BranchInstructionsComplete : Prop :=
    ∀ (c : Condition) (hi : BitVec 1) (offset : BitVec 24) (s : State),
    exec (.b c hi offset) s = .next (s.reporting c 4 none 20 0 (branchWord c hi 0#1 offset)) ∧
    exec (.bl c hi offset) s = .next (s.reporting c 4 none 21 0 (branchWord c hi 1#1 offset))

/-- For every condition, bits 25:24, immediate and state with policy SupervisorCall, Swi answers the next state
that reports the condition code, class_id 5, no sub-form, no error, mnem_id 22, swi_imm24 = the immediate,
undef_word 0 and the word, drives the encode outputs of the encode inputs, and leaves inputs and parameters as
they were. (spec/44_mnemonic.md section 3 (one rule per mnemonic), spec/60_exceptions.md section 3 (Traps)) -/
def Obligations.SwiCompletesUnderSupervisorCall : Prop :=
    ∀ (c : Condition) (hi : BitVec 2) (imm : BitVec 24) (s : State), s.params.class11xPolicy = .supervisorCall →
    exec (.swi c hi imm) s = .next (s.reporting c 5 none 22 imm (swiWord c hi imm))

/-- For every condition, bits 25:24, immediate and state with policy Reject, the meaning of a Swi word answers a
next state with a valid condition, class_valid 0, class_id 0, err_class 1, no sub-form, mnem_id 23, undef_word
and word_out the word, swi_imm24 0, and inputs and parameters as they were. A Swi term is not well-formed
under Reject; that its meaning there is what the block reports for its word is the model's reading
(notes/assumptions/11.md). (spec/44_mnemonic.md section 3 (one rule per mnemonic), spec/60_exceptions.md
section 1 (Error taxonomy), notes/assumptions/11.md) -/
def Obligations.SwiWordUnderReject : Prop :=
    ∀ (c : Condition) (hi : BitVec 2) (imm : BitVec 24) (s : State), s.params.class11xPolicy = .reject →
    exec (.swi c hi imm) s = .next
      { params := s.params, decWord := s.decWord, encIn := s.encIn
        decOut :=
          { condValid := true, condCode := conditionCode c, classValid := false, classId := 0, subformValid := false,
            subformId := 0, subformConflict := false, errCond := false, errClass := true, errSubform := false,
            mnemId := 23, swiImm24 := 0, undefWord := swiWord c hi imm, wordOut := swiWord c hi imm }
        encOut := encodeGroup s.encIn }

/-- For every instruction, state and outcome: if exec or step gives a next state, its parameters (CLASS_11X_POLICY
and FETCH_BYTE_ORDER), its dec_word and its encode inputs are those of the state before. (spec/10_state.md
section 1 (the policy cannot be written while the block operates)) -/
def Obligations.InputsAndParametersAreNeverWritten : Prop :=
    (∀ (i : Instr) (s t : State), exec i s = .next t → t.params = s.params ∧ t.decWord = s.decWord ∧ t.encIn = s.encIn) ∧
    ∀ s t : State, step s = .next t → t.params = s.params ∧ t.decWord = s.decWord ∧ t.encIn = s.encIn

/-- For every state s there is a next state t of step s in which every output is the function of the inputs
present, and step t is t again: nothing is left over from before the step. (spec/10_state.md section 1 (no
hidden state), spec/70_reset_and_hazards.md section 1 (power-up)) -/
def Obligations.EveryStepSettles : Prop :=
    ∀ s : State, ∃ t, step s = .next t ∧ Settled t ∧ step t = .next t

/-- For every state whose decode outputs are lawful (each value output zero where its validity condition is false,
each identifier naming a variant or zero, err_cond and err_class the negations of their valid bits,
err_subform and subform_conflict 0), a next state of step has lawful decode outputs too; in fact a next state
of step has lawful decode outputs, all of these clauses, from any state whatever. (spec/10_state.md section 3
(R31: zero-drive), spec/10_state.md section 2 (R29: identifiers), spec/41_condition.md section 2 (R124:
err_cond), spec/42_class.md section 3 (R155: err_class), spec/43_dp_subform.md section 3 (R195, R196:
subform_conflict), spec/43_dp_subform.md section 4 (R200: err_subform), spec/60_exceptions.md section 1 (R303:
err_subform; R305: no unnamed identifier)) -/
def Obligations.LawfulPortsAreKeptByEveryStep : Prop :=
    (∀ s t : State, PortsLawful s → step s = .next t → PortsLawful t) ∧
    ∀ s t : State, step s = .next t → PortsLawful t

/-- At State.reset the policy is SupervisorCall, the spec's default, as the value that no step changes
(notes/assumptions/1.md); the decode outputs are the port functions of dec_word, the encode outputs those of
the encode inputs, and the decode outputs are lawful. That the inputs are zero at reset is the model's choice
(notes/assumptions/4.md). (spec/00_scope.md section 3 (R6: the default policy), spec/10_state.md section 3
(reset values), spec/70_reset_and_hazards.md section 1 (Reset), notes/assumptions/1.md,
notes/assumptions/4.md) -/
def Obligations.ResetIsSettledAndLawful : Prop :=
    State.reset.params.class11xPolicy = .supervisorCall ∧ Settled State.reset ∧ PortsLawful State.reset

/-- For any two states and their next states: if the policy and dec_word agree, the decode outputs agree, whatever
the encode inputs, the byte order and the old outputs are; if the encode inputs agree, the encode outputs
agree, whatever dec_word, the parameters and the old outputs are. (spec/70_reset_and_hazards.md section 2
(Input stability, Concurrency), spec/10_state.md sections 1 and 3 (no hidden state, independent instances)) -/
def Obligations.OutputsDependOnTheirOwnInputs : Prop :=
    ∀ s s' t t' : State, step s = .next t → step s' = .next t' →
    (s.params.class11xPolicy = s'.params.class11xPolicy → s.decWord = s'.decWord → t.decOut = t'.decOut) ∧
    (s.encIn = s'.encIn → t.encOut = t'.encOut)

/-- If two words agree in bits 31:20 and 7:4, the condition, class and sub-form they decode to are the same, and
either both resolve to no mnemonic or they resolve to mnemonics with the same identifier. (spec/30_encoding.md
section 1 (the table of every field the block reads or writes)) -/
def Obligations.UnreadBitsDoNotChangeTheResult : Prop :=
    ∀ (p : Class11xPolicy) (w u : Word), w.extractLsb 31 20 = u.extractLsb 31 20 → w.extractLsb 7 4 = u.extractLsb 7 4 →
    decodeCondition w = decodeCondition u ∧ decodeClass p w = decodeClass p u ∧ decodeSubform w = decodeSubform u ∧
    mnemonicId (decodeInstruction p w) = mnemonicId (decodeInstruction p u)
end

