-- ==== Sys2Proof/Laws/BitField.lean ====
section
/-! SUPPORT. The bits of the words the bit-field operations build, one lemma per operation. -/

namespace Sys2Proof.Machine

@[simp] theorem getLsbD_setBit (w : Word) (p q : Nat) (b : Bool) (hp : p < 32) :
    (setBit w p b).getLsbD q = if q = p then b else w.getLsbD q := by
  have one (j : Nat) : (1#32).getLsbD j = decide (j = 0) := by
    rcases j with _ | j <;> simp [BitVec.getLsbD_one]
  unfold setBit
  by_cases hq : q < 32
  · split <;> rename_i hb <;> by_cases h : q = p <;> simp_all <;> omega
  · have : q ≠ p := by omega
    split <;> simp [BitVec.getLsbD_of_ge _ _ (Nat.le_of_not_lt hq)]

@[simp] theorem getLsbD_putBits {n : Nat} (w : Word) (lo : Nat) (v : BitVec n) (q : Nat) (h : lo + n ≤ 32) :
    (putBits w lo v).getLsbD q = if lo ≤ q ∧ q < lo + n then v.getLsbD (q - lo) else w.getLsbD q := by
  unfold putBits
  by_cases hq : q < 32
  · by_cases h1 : lo ≤ q <;> by_cases h2 : q < lo + n
    · have : q - lo < n := by omega
      simp [hq, h1, h2, this, Nat.not_lt.mpr h1]
    · have : v.getLsbD (q - lo) = false := BitVec.getLsbD_of_ge v _ (by omega)
      have hn : ¬ q - lo < n := by omega
      simp [hq, h1, h2, this, hn, Nat.not_lt.mpr h1]
    · have : q < lo := by omega
      simp [hq, h1, this]
    · omega
  · have : ¬ (lo ≤ q ∧ q < lo + n) := by omega
    simp [this, BitVec.getLsbD_of_ge _ _ (Nat.le_of_not_lt hq)]

/-- Reading back the field just written. -/
theorem extractLsb'_putBits {n : Nat} (w : Word) (lo : Nat) (v : BitVec n) (h : lo + n ≤ 32) :
    (putBits w lo v).extractLsb' lo n = v := by
  apply BitVec.eq_of_getLsbD_eq
  intro i hi
  simp [h, hi]

/-- A field that does not meet the written one is kept. -/
theorem extractLsb'_putBits_of_disjoint {n : Nat} (w : Word) (lo : Nat) (v : BitVec n) (lo' n' : Nat)
    (h : lo + n ≤ 32) (hd : lo' + n' ≤ lo ∨ lo + n ≤ lo') :
    (putBits w lo v).extractLsb' lo' n' = w.extractLsb' lo' n' := by
  apply BitVec.eq_of_getLsbD_eq
  intro i hi
  have : ¬ (lo ≤ lo' + i ∧ lo' + i < lo + n) := by omega
  simp [h, hi, this]

end Sys2Proof.Machine
end

