-- ==== Sys2Proof/Laws/Fields.lean ====
section
/-! SUPPORT. The fields of the words the encoder builds: each part of the layout (R63) is read back where it lies. -/

namespace Sys2Proof.Machine

/-- The part of a concatenation at the top of the sliced range. -/
theorem extractLsb'_append_high {n m : Nat} (x : BitVec n) (y : BitVec m) (lo len : Nat) (h : m ≤ lo) :
    (x ++ y).extractLsb' lo len = x.extractLsb' (lo - m) len := by
  apply BitVec.eq_of_getLsbD_eq
  intro i hi
  have : ¬ lo + i < m := by omega
  have e : lo + i - m = lo - m + i := by omega
  simp [BitVec.getLsbD_append, hi, this, e]

/-- The part of a concatenation below the seam. -/
theorem extractLsb'_append_low {n m : Nat} (x : BitVec n) (y : BitVec m) (lo len : Nat) (h : lo + len ≤ m) :
    (x ++ y).extractLsb' lo len = y.extractLsb' lo len := by
  apply BitVec.eq_of_getLsbD_eq
  intro i hi
  have : lo + i < m := by omega
  simp [BitVec.getLsbD_append, hi, this]

@[simp] theorem registerWord_bits_28_4 (c : Condition) (k : BitVec 4) (f : BitVec 1) (hi : BitVec 15) (lo : BitVec 4) :
    (registerWord c k f hi lo).extractLsb' 28 4 = conditionCode c := by
  unfold registerWord
  rw [extractLsb'_append_high (h := by decide)]
  rw [extractLsb'_append_high (h := by decide)]
  rw [extractLsb'_append_high (h := by decide)]
  rw [extractLsb'_append_high (h := by decide)]
  rw [extractLsb'_append_high (h := by decide)]
  rw [extractLsb'_append_high (h := by decide)]
  exact BitVec.extractLsb'_eq_self

@[simp] theorem registerWord_bits_25_3 (c : Condition) (k : BitVec 4) (f : BitVec 1) (hi : BitVec 15) (lo : BitVec 4) :
    (registerWord c k f hi lo).extractLsb' 25 3 = 0b000#3 := by
  unfold registerWord
  rw [extractLsb'_append_high (h := by decide)]
  rw [extractLsb'_append_high (h := by decide)]
  rw [extractLsb'_append_high (h := by decide)]
  rw [extractLsb'_append_high (h := by decide)]
  rw [extractLsb'_append_high (h := by decide)]
  rw [extractLsb'_append_low (h := by decide)]
  exact BitVec.extractLsb'_eq_self

@[simp] theorem registerWord_bits_21_4 (c : Condition) (k : BitVec 4) (f : BitVec 1) (hi : BitVec 15) (lo : BitVec 4) :
    (registerWord c k f hi lo).extractLsb' 21 4 = k := by
  unfold registerWord
  rw [extractLsb'_append_high (h := by decide)]
  rw [extractLsb'_append_high (h := by decide)]
  rw [extractLsb'_append_high (h := by decide)]
  rw [extractLsb'_append_high (h := by decide)]
  rw [extractLsb'_append_low (h := by decide)]
  exact BitVec.extractLsb'_eq_self

@[simp] theorem registerWord_bits_20_1 (c : Condition) (k : BitVec 4) (f : BitVec 1) (hi : BitVec 15) (lo : BitVec 4) :
    (registerWord c k f hi lo).extractLsb' 20 1 = f := by
  unfold registerWord
  rw [extractLsb'_append_high (h := by decide)]
  rw [extractLsb'_append_high (h := by decide)]
  rw [extractLsb'_append_high (h := by decide)]
  rw [extractLsb'_append_low (h := by decide)]
  exact BitVec.extractLsb'_eq_self

@[simp] theorem registerWord_bits_5_15 (c : Condition) (k : BitVec 4) (f : BitVec 1) (hi : BitVec 15) (lo : BitVec 4) :
    (registerWord c k f hi lo).extractLsb' 5 15 = hi := by
  unfold registerWord
  rw [extractLsb'_append_high (h := by decide)]
  rw [extractLsb'_append_high (h := by decide)]
  rw [extractLsb'_append_low (h := by decide)]
  exact BitVec.extractLsb'_eq_self

@[simp] theorem registerWord_bits_4_1 (c : Condition) (k : BitVec 4) (f : BitVec 1) (hi : BitVec 15) (lo : BitVec 4) :
    (registerWord c k f hi lo).extractLsb' 4 1 = 0b0#1 := by
  unfold registerWord
  rw [extractLsb'_append_high (h := by decide)]
  rw [extractLsb'_append_low (h := by decide)]
  exact BitVec.extractLsb'_eq_self

@[simp] theorem registerWord_bits_0_4 (c : Condition) (k : BitVec 4) (f : BitVec 1) (hi : BitVec 15) (lo : BitVec 4) :
    (registerWord c k f hi lo).extractLsb' 0 4 = lo := by
  unfold registerWord
  rw [extractLsb'_append_low (h := by decide)]
  exact BitVec.extractLsb'_eq_self

@[simp] theorem registerShiftedWord_bits_28_4 (c : Condition) (k : BitVec 4) (f : BitVec 1) (hi : BitVec 12) (mid : BitVec 2) (lo : BitVec 4) :
    (registerShiftedWord c k f hi mid lo).extractLsb' 28 4 = conditionCode c := by
  unfold registerShiftedWord
  rw [extractLsb'_append_high (h := by decide)]
  rw [extractLsb'_append_high (h := by decide)]
  rw [extractLsb'_append_high (h := by decide)]
  rw [extractLsb'_append_high (h := by decide)]
  rw [extractLsb'_append_high (h := by decide)]
  rw [extractLsb'_append_high (h := by decide)]
  rw [extractLsb'_append_high (h := by decide)]
  rw [extractLsb'_append_high (h := by decide)]
  exact BitVec.extractLsb'_eq_self

@[simp] theorem registerShiftedWord_bits_25_3 (c : Condition) (k : BitVec 4) (f : BitVec 1) (hi : BitVec 12) (mid : BitVec 2) (lo : BitVec 4) :
    (registerShiftedWord c k f hi mid lo).extractLsb' 25 3 = 0b000#3 := by
  unfold registerShiftedWord
  rw [extractLsb'_append_high (h := by decide)]
  rw [extractLsb'_append_high (h := by decide)]
  rw [extractLsb'_append_high (h := by decide)]
  rw [extractLsb'_append_high (h := by decide)]
  rw [extractLsb'_append_high (h := by decide)]
  rw [extractLsb'_append_high (h := by decide)]
  rw [extractLsb'_append_high (h := by decide)]
  rw [extractLsb'_append_low (h := by decide)]
  exact BitVec.extractLsb'_eq_self

@[simp] theorem registerShiftedWord_bits_21_4 (c : Condition) (k : BitVec 4) (f : BitVec 1) (hi : BitVec 12) (mid : BitVec 2) (lo : BitVec 4) :
    (registerShiftedWord c k f hi mid lo).extractLsb' 21 4 = k := by
  unfold registerShiftedWord
  rw [extractLsb'_append_high (h := by decide)]
  rw [extractLsb'_append_high (h := by decide)]
  rw [extractLsb'_append_high (h := by decide)]
  rw [extractLsb'_append_high (h := by decide)]
  rw [extractLsb'_append_high (h := by decide)]
  rw [extractLsb'_append_high (h := by decide)]
  rw [extractLsb'_append_low (h := by decide)]
  exact BitVec.extractLsb'_eq_self

@[simp] theorem registerShiftedWord_bits_20_1 (c : Condition) (k : BitVec 4) (f : BitVec 1) (hi : BitVec 12) (mid : BitVec 2) (lo : BitVec 4) :
    (registerShiftedWord c k f hi mid lo).extractLsb' 20 1 = f := by
  unfold registerShiftedWord
  rw [extractLsb'_append_high (h := by decide)]
  rw [extractLsb'_append_high (h := by decide)]
  rw [extractLsb'_append_high (h := by decide)]
  rw [extractLsb'_append_high (h := by decide)]
  rw [extractLsb'_append_high (h := by decide)]
  rw [extractLsb'_append_low (h := by decide)]
  exact BitVec.extractLsb'_eq_self

@[simp] theorem registerShiftedWord_bits_8_12 (c : Condition) (k : BitVec 4) (f : BitVec 1) (hi : BitVec 12) (mid : BitVec 2) (lo : BitVec 4) :
    (registerShiftedWord c k f hi mid lo).extractLsb' 8 12 = hi := by
  unfold registerShiftedWord
  rw [extractLsb'_append_high (h := by decide)]
  rw [extractLsb'_append_high (h := by decide)]
  rw [extractLsb'_append_high (h := by decide)]
  rw [extractLsb'_append_high (h := by decide)]
  rw [extractLsb'_append_low (h := by decide)]
  exact BitVec.extractLsb'_eq_self

@[simp] theorem registerShiftedWord_bits_7_1 (c : Condition) (k : BitVec 4) (f : BitVec 1) (hi : BitVec 12) (mid : BitVec 2) (lo : BitVec 4) :
    (registerShiftedWord c k f hi mid lo).extractLsb' 7 1 = 0b0#1 := by
  unfold registerShiftedWord
  rw [extractLsb'_append_high (h := by decide)]
  rw [extractLsb'_append_high (h := by decide)]
  rw [extractLsb'_append_high (h := by decide)]
  rw [extractLsb'_append_low (h := by decide)]
  exact BitVec.extractLsb'_eq_self

@[simp] theorem registerShiftedWord_bits_5_2 (c : Condition) (k : BitVec 4) (f : BitVec 1) (hi : BitVec 12) (mid : BitVec 2) (lo : BitVec 4) :
    (registerShiftedWord c k f hi mid lo).extractLsb' 5 2 = mid := by
  unfold registerShiftedWord
  rw [extractLsb'_append_high (h := by decide)]
  rw [extractLsb'_append_high (h := by decide)]
  rw [extractLsb'_append_low (h := by decide)]
  exact BitVec.extractLsb'_eq_self

@[simp] theorem registerShiftedWord_bits_4_1 (c : Condition) (k : BitVec 4) (f : BitVec 1) (hi : BitVec 12) (mid : BitVec 2) (lo : BitVec 4) :
    (registerShiftedWord c k f hi mid lo).extractLsb' 4 1 = 0b1#1 := by
  unfold registerShiftedWord
  rw [extractLsb'_append_high (h := by decide)]
  rw [extractLsb'_append_low (h := by decide)]
  exact BitVec.extractLsb'_eq_self

@[simp] theorem registerShiftedWord_bits_0_4 (c : Condition) (k : BitVec 4) (f : BitVec 1) (hi : BitVec 12) (mid : BitVec 2) (lo : BitVec 4) :
    (registerShiftedWord c k f hi mid lo).extractLsb' 0 4 = lo := by
  unfold registerShiftedWord
  rw [extractLsb'_append_low (h := by decide)]
  exact BitVec.extractLsb'_eq_self

@[simp] theorem immediateWord_bits_28_4 (c : Condition) (k : BitVec 4) (f : BitVec 1) (lo : BitVec 20) :
    (immediateWord c k f lo).extractLsb' 28 4 = conditionCode c := by
  unfold immediateWord
  rw [extractLsb'_append_high (h := by decide)]
  rw [extractLsb'_append_high (h := by decide)]
  rw [extractLsb'_append_high (h := by decide)]
  rw [extractLsb'_append_high (h := by decide)]
  exact BitVec.extractLsb'_eq_self

@[simp] theorem immediateWord_bits_25_3 (c : Condition) (k : BitVec 4) (f : BitVec 1) (lo : BitVec 20) :
    (immediateWord c k f lo).extractLsb' 25 3 = 0b001#3 := by
  unfold immediateWord
  rw [extractLsb'_append_high (h := by decide)]
  rw [extractLsb'_append_high (h := by decide)]
  rw [extractLsb'_append_high (h := by decide)]
  rw [extractLsb'_append_low (h := by decide)]
  exact BitVec.extractLsb'_eq_self

@[simp] theorem immediateWord_bits_21_4 (c : Condition) (k : BitVec 4) (f : BitVec 1) (lo : BitVec 20) :
    (immediateWord c k f lo).extractLsb' 21 4 = k := by
  unfold immediateWord
  rw [extractLsb'_append_high (h := by decide)]
  rw [extractLsb'_append_high (h := by decide)]
  rw [extractLsb'_append_low (h := by decide)]
  exact BitVec.extractLsb'_eq_self

@[simp] theorem immediateWord_bits_20_1 (c : Condition) (k : BitVec 4) (f : BitVec 1) (lo : BitVec 20) :
    (immediateWord c k f lo).extractLsb' 20 1 = f := by
  unfold immediateWord
  rw [extractLsb'_append_high (h := by decide)]
  rw [extractLsb'_append_low (h := by decide)]
  exact BitVec.extractLsb'_eq_self

@[simp] theorem immediateWord_bits_0_20 (c : Condition) (k : BitVec 4) (f : BitVec 1) (lo : BitVec 20) :
    (immediateWord c k f lo).extractLsb' 0 20 = lo := by
  unfold immediateWord
  rw [extractLsb'_append_low (h := by decide)]
  exact BitVec.extractLsb'_eq_self

@[simp] theorem loadStoreWord_bits_28_4 (c : Condition) (l b : BitVec 1) (hi : BitVec 2) (mid : BitVec 1) (lo : BitVec 20) :
    (loadStoreWord c l b hi mid lo).extractLsb' 28 4 = conditionCode c := by
  unfold loadStoreWord
  rw [extractLsb'_append_high (h := by decide)]
  rw [extractLsb'_append_high (h := by decide)]
  rw [extractLsb'_append_high (h := by decide)]
  rw [extractLsb'_append_high (h := by decide)]
  rw [extractLsb'_append_high (h := by decide)]
  rw [extractLsb'_append_high (h := by decide)]
  exact BitVec.extractLsb'_eq_self

@[simp] theorem loadStoreWord_bits_25_3 (c : Condition) (l b : BitVec 1) (hi : BitVec 2) (mid : BitVec 1) (lo : BitVec 20) :
    (loadStoreWord c l b hi mid lo).extractLsb' 25 3 = 0b010#3 := by
  unfold loadStoreWord
  rw [extractLsb'_append_high (h := by decide)]
  rw [extractLsb'_append_high (h := by decide)]
  rw [extractLsb'_append_high (h := by decide)]
  rw [extractLsb'_append_high (h := by decide)]
  rw [extractLsb'_append_high (h := by decide)]
  rw [extractLsb'_append_low (h := by decide)]
  exact BitVec.extractLsb'_eq_self

@[simp] theorem loadStoreWord_bits_23_2 (c : Condition) (l b : BitVec 1) (hi : BitVec 2) (mid : BitVec 1) (lo : BitVec 20) :
    (loadStoreWord c l b hi mid lo).extractLsb' 23 2 = hi := by
  unfold loadStoreWord
  rw [extractLsb'_append_high (h := by decide)]
  rw [extractLsb'_append_high (h := by decide)]
  rw [extractLsb'_append_high (h := by decide)]
  rw [extractLsb'_append_high (h := by decide)]
  rw [extractLsb'_append_low (h := by decide)]
  exact BitVec.extractLsb'_eq_self

@[simp] theorem loadStoreWord_bits_22_1 (c : Condition) (l b : BitVec 1) (hi : BitVec 2) (mid : BitVec 1) (lo : BitVec 20) :
    (loadStoreWord c l b hi mid lo).extractLsb' 22 1 = b := by
  unfold loadStoreWord
  rw [extractLsb'_append_high (h := by decide)]
  rw [extractLsb'_append_high (h := by decide)]
  rw [extractLsb'_append_high (h := by decide)]
  rw [extractLsb'_append_low (h := by decide)]
  exact BitVec.extractLsb'_eq_self

@[simp] theorem loadStoreWord_bits_21_1 (c : Condition) (l b : BitVec 1) (hi : BitVec 2) (mid : BitVec 1) (lo : BitVec 20) :
    (loadStoreWord c l b hi mid lo).extractLsb' 21 1 = mid := by
  unfold loadStoreWord
  rw [extractLsb'_append_high (h := by decide)]
  rw [extractLsb'_append_high (h := by decide)]
  rw [extractLsb'_append_low (h := by decide)]
  exact BitVec.extractLsb'_eq_self

@[simp] theorem loadStoreWord_bits_20_1 (c : Condition) (l b : BitVec 1) (hi : BitVec 2) (mid : BitVec 1) (lo : BitVec 20) :
    (loadStoreWord c l b hi mid lo).extractLsb' 20 1 = l := by
  unfold loadStoreWord
  rw [extractLsb'_append_high (h := by decide)]
  rw [extractLsb'_append_low (h := by decide)]
  exact BitVec.extractLsb'_eq_self

@[simp] theorem loadStoreWord_bits_0_20 (c : Condition) (l b : BitVec 1) (hi : BitVec 2) (mid : BitVec 1) (lo : BitVec 20) :
    (loadStoreWord c l b hi mid lo).extractLsb' 0 20 = lo := by
  unfold loadStoreWord
  rw [extractLsb'_append_low (h := by decide)]
  exact BitVec.extractLsb'_eq_self

@[simp] theorem branchWord_bits_28_4 (c : Condition) (hi link : BitVec 1) (offset : BitVec 24) :
    (branchWord c hi link offset).extractLsb' 28 4 = conditionCode c := by
  unfold branchWord
  rw [extractLsb'_append_high (h := by decide)]
  rw [extractLsb'_append_high (h := by decide)]
  rw [extractLsb'_append_high (h := by decide)]
  rw [extractLsb'_append_high (h := by decide)]
  exact BitVec.extractLsb'_eq_self

@[simp] theorem branchWord_bits_26_2 (c : Condition) (hi link : BitVec 1) (offset : BitVec 24) :
    (branchWord c hi link offset).extractLsb' 26 2 = 0b10#2 := by
  unfold branchWord
  rw [extractLsb'_append_high (h := by decide)]
  rw [extractLsb'_append_high (h := by decide)]
  rw [extractLsb'_append_high (h := by decide)]
  rw [extractLsb'_append_low (h := by decide)]
  exact BitVec.extractLsb'_eq_self

@[simp] theorem branchWord_bits_25_1 (c : Condition) (hi link : BitVec 1) (offset : BitVec 24) :
    (branchWord c hi link offset).extractLsb' 25 1 = hi := by
  unfold branchWord
  rw [extractLsb'_append_high (h := by decide)]
  rw [extractLsb'_append_high (h := by decide)]
  rw [extractLsb'_append_low (h := by decide)]
  exact BitVec.extractLsb'_eq_self

@[simp] theorem branchWord_bits_24_1 (c : Condition) (hi link : BitVec 1) (offset : BitVec 24) :
    (branchWord c hi link offset).extractLsb' 24 1 = link := by
  unfold branchWord
  rw [extractLsb'_append_high (h := by decide)]
  rw [extractLsb'_append_low (h := by decide)]
  exact BitVec.extractLsb'_eq_self

@[simp] theorem branchWord_bits_0_24 (c : Condition) (hi link : BitVec 1) (offset : BitVec 24) :
    (branchWord c hi link offset).extractLsb' 0 24 = offset := by
  unfold branchWord
  rw [extractLsb'_append_low (h := by decide)]
  exact BitVec.extractLsb'_eq_self

@[simp] theorem swiWord_bits_28_4 (c : Condition) (hi : BitVec 2) (imm : BitVec 24) :
    (swiWord c hi imm).extractLsb' 28 4 = conditionCode c := by
  unfold swiWord
  rw [extractLsb'_append_high (h := by decide)]
  rw [extractLsb'_append_high (h := by decide)]
  rw [extractLsb'_append_high (h := by decide)]
  exact BitVec.extractLsb'_eq_self

@[simp] theorem swiWord_bits_26_2 (c : Condition) (hi : BitVec 2) (imm : BitVec 24) :
    (swiWord c hi imm).extractLsb' 26 2 = 0b11#2 := by
  unfold swiWord
  rw [extractLsb'_append_high (h := by decide)]
  rw [extractLsb'_append_high (h := by decide)]
  rw [extractLsb'_append_low (h := by decide)]
  exact BitVec.extractLsb'_eq_self

@[simp] theorem swiWord_bits_24_2 (c : Condition) (hi : BitVec 2) (imm : BitVec 24) :
    (swiWord c hi imm).extractLsb' 24 2 = hi := by
  unfold swiWord
  rw [extractLsb'_append_high (h := by decide)]
  rw [extractLsb'_append_low (h := by decide)]
  exact BitVec.extractLsb'_eq_self

@[simp] theorem swiWord_bits_0_24 (c : Condition) (hi : BitVec 2) (imm : BitVec 24) :
    (swiWord c hi imm).extractLsb' 0 24 = imm := by
  unfold swiWord
  rw [extractLsb'_append_low (h := by decide)]
  exact BitVec.extractLsb'_eq_self

/-! ### The named fields (R62) of each format -/

@[simp] theorem condField_registerWord (c : Condition) (k : BitVec 4) (f : BitVec 1) (hi : BitVec 15) (lo : BitVec 4) :
    condField (registerWord c k f hi lo) = conditionCode c :=
  registerWord_bits_28_4 c k f hi lo

@[simp] theorem classOp_registerWord (c : Condition) (k : BitVec 4) (f : BitVec 1) (hi : BitVec 15) (lo : BitVec 4) :
    classOp (registerWord c k f hi lo) = 0b000#3 :=
  registerWord_bits_25_3 c k f hi lo

@[simp] theorem classGate_registerWord (c : Condition) (k : BitVec 4) (f : BitVec 1) (hi : BitVec 15) (lo : BitVec 4) :
    classGate (registerWord c k f hi lo) = 0b00#2 := by
  unfold classGate registerWord
  rw [extractLsb'_append_high (h := by decide)]
  rw [extractLsb'_append_high (h := by decide)]
  rw [extractLsb'_append_high (h := by decide)]
  rw [extractLsb'_append_high (h := by decide)]
  rw [extractLsb'_append_high (h := by decide)]
  rw [extractLsb'_append_low (h := by decide)]
  decide

@[simp] theorem dpOp_registerWord (c : Condition) (k : BitVec 4) (f : BitVec 1) (hi : BitVec 15) (lo : BitVec 4) :
    dpOp (registerWord c k f hi lo) = 0b0#1 := by
  unfold dpOp registerWord
  rw [extractLsb'_append_high (h := by decide)]
  rw [extractLsb'_append_high (h := by decide)]
  rw [extractLsb'_append_high (h := by decide)]
  rw [extractLsb'_append_high (h := by decide)]
  rw [extractLsb'_append_high (h := by decide)]
  rw [extractLsb'_append_low (h := by decide)]
  decide

@[simp] theorem dpOpcode_registerWord (c : Condition) (k : BitVec 4) (f : BitVec 1) (hi : BitVec 15) (lo : BitVec 4) :
    dpOpcode (registerWord c k f hi lo) = k :=
  registerWord_bits_21_4 c k f hi lo

@[simp] theorem bit20_registerWord (c : Condition) (k : BitVec 4) (f : BitVec 1) (hi : BitVec 15) (lo : BitVec 4) :
    bit20 (registerWord c k f hi lo) = f :=
  registerWord_bits_20_1 c k f hi lo

@[simp] theorem classOp1_registerWord (c : Condition) (k : BitVec 4) (f : BitVec 1) (hi : BitVec 15) (lo : BitVec 4) :
    classOp1 (registerWord c k f hi lo) = 0b0#1 :=
  registerWord_bits_4_1 c k f hi lo

@[simp] theorem condField_registerShiftedWord (c : Condition) (k : BitVec 4) (f : BitVec 1) (hi : BitVec 12) (mid : BitVec 2) (lo : BitVec 4) :
    condField (registerShiftedWord c k f hi mid lo) = conditionCode c :=
  registerShiftedWord_bits_28_4 c k f hi mid lo

@[simp] theorem classOp_registerShiftedWord (c : Condition) (k : BitVec 4) (f : BitVec 1) (hi : BitVec 12) (mid : BitVec 2) (lo : BitVec 4) :
    classOp (registerShiftedWord c k f hi mid lo) = 0b000#3 :=
  registerShiftedWord_bits_25_3 c k f hi mid lo

@[simp] theorem classGate_registerShiftedWord (c : Condition) (k : BitVec 4) (f : BitVec 1) (hi : BitVec 12) (mid : BitVec 2) (lo : BitVec 4) :
    classGate (registerShiftedWord c k f hi mid lo) = 0b00#2 := by
  unfold classGate registerShiftedWord
  rw [extractLsb'_append_high (h := by decide)]
  rw [extractLsb'_append_high (h := by decide)]
  rw [extractLsb'_append_high (h := by decide)]
  rw [extractLsb'_append_high (h := by decide)]
  rw [extractLsb'_append_high (h := by decide)]
  rw [extractLsb'_append_high (h := by decide)]
  rw [extractLsb'_append_high (h := by decide)]
  rw [extractLsb'_append_low (h := by decide)]
  decide

@[simp] theorem dpOp_registerShiftedWord (c : Condition) (k : BitVec 4) (f : BitVec 1) (hi : BitVec 12) (mid : BitVec 2) (lo : BitVec 4) :
    dpOp (registerShiftedWord c k f hi mid lo) = 0b0#1 := by
  unfold dpOp registerShiftedWord
  rw [extractLsb'_append_high (h := by decide)]
  rw [extractLsb'_append_high (h := by decide)]
  rw [extractLsb'_append_high (h := by decide)]
  rw [extractLsb'_append_high (h := by decide)]
  rw [extractLsb'_append_high (h := by decide)]
  rw [extractLsb'_append_high (h := by decide)]
  rw [extractLsb'_append_high (h := by decide)]
  rw [extractLsb'_append_low (h := by decide)]
  decide

@[simp] theorem dpOpcode_registerShiftedWord (c : Condition) (k : BitVec 4) (f : BitVec 1) (hi : BitVec 12) (mid : BitVec 2) (lo : BitVec 4) :
    dpOpcode (registerShiftedWord c k f hi mid lo) = k :=
  registerShiftedWord_bits_21_4 c k f hi mid lo

@[simp] theorem bit20_registerShiftedWord (c : Condition) (k : BitVec 4) (f : BitVec 1) (hi : BitVec 12) (mid : BitVec 2) (lo : BitVec 4) :
    bit20 (registerShiftedWord c k f hi mid lo) = f :=
  registerShiftedWord_bits_20_1 c k f hi mid lo

@[simp] theorem classOp1_registerShiftedWord (c : Condition) (k : BitVec 4) (f : BitVec 1) (hi : BitVec 12) (mid : BitVec 2) (lo : BitVec 4) :
    classOp1 (registerShiftedWord c k f hi mid lo) = 0b1#1 :=
  registerShiftedWord_bits_4_1 c k f hi mid lo

@[simp] theorem condField_immediateWord (c : Condition) (k : BitVec 4) (f : BitVec 1) (lo : BitVec 20) :
    condField (immediateWord c k f lo) = conditionCode c :=
  immediateWord_bits_28_4 c k f lo

@[simp] theorem classOp_immediateWord (c : Condition) (k : BitVec 4) (f : BitVec 1) (lo : BitVec 20) :
    classOp (immediateWord c k f lo) = 0b001#3 :=
  immediateWord_bits_25_3 c k f lo

@[simp] theorem classGate_immediateWord (c : Condition) (k : BitVec 4) (f : BitVec 1) (lo : BitVec 20) :
    classGate (immediateWord c k f lo) = 0b00#2 := by
  unfold classGate immediateWord
  rw [extractLsb'_append_high (h := by decide)]
  rw [extractLsb'_append_high (h := by decide)]
  rw [extractLsb'_append_high (h := by decide)]
  rw [extractLsb'_append_low (h := by decide)]
  decide

@[simp] theorem dpOp_immediateWord (c : Condition) (k : BitVec 4) (f : BitVec 1) (lo : BitVec 20) :
    dpOp (immediateWord c k f lo) = 0b1#1 := by
  unfold dpOp immediateWord
  rw [extractLsb'_append_high (h := by decide)]
  rw [extractLsb'_append_high (h := by decide)]
  rw [extractLsb'_append_high (h := by decide)]
  rw [extractLsb'_append_low (h := by decide)]
  decide

@[simp] theorem dpOpcode_immediateWord (c : Condition) (k : BitVec 4) (f : BitVec 1) (lo : BitVec 20) :
    dpOpcode (immediateWord c k f lo) = k :=
  immediateWord_bits_21_4 c k f lo

@[simp] theorem bit20_immediateWord (c : Condition) (k : BitVec 4) (f : BitVec 1) (lo : BitVec 20) :
    bit20 (immediateWord c k f lo) = f :=
  immediateWord_bits_20_1 c k f lo

@[simp] theorem condField_loadStoreWord (c : Condition) (l b : BitVec 1) (hi : BitVec 2) (mid : BitVec 1) (lo : BitVec 20) :
    condField (loadStoreWord c l b hi mid lo) = conditionCode c :=
  loadStoreWord_bits_28_4 c l b hi mid lo

@[simp] theorem classOp_loadStoreWord (c : Condition) (l b : BitVec 1) (hi : BitVec 2) (mid : BitVec 1) (lo : BitVec 20) :
    classOp (loadStoreWord c l b hi mid lo) = 0b010#3 :=
  loadStoreWord_bits_25_3 c l b hi mid lo

@[simp] theorem classGate_loadStoreWord (c : Condition) (l b : BitVec 1) (hi : BitVec 2) (mid : BitVec 1) (lo : BitVec 20) :
    classGate (loadStoreWord c l b hi mid lo) = 0b01#2 := by
  unfold classGate loadStoreWord
  rw [extractLsb'_append_high (h := by decide)]
  rw [extractLsb'_append_high (h := by decide)]
  rw [extractLsb'_append_high (h := by decide)]
  rw [extractLsb'_append_high (h := by decide)]
  rw [extractLsb'_append_high (h := by decide)]
  rw [extractLsb'_append_low (h := by decide)]
  decide

@[simp] theorem dpOp_loadStoreWord (c : Condition) (l b : BitVec 1) (hi : BitVec 2) (mid : BitVec 1) (lo : BitVec 20) :
    dpOp (loadStoreWord c l b hi mid lo) = 0b0#1 := by
  unfold dpOp loadStoreWord
  rw [extractLsb'_append_high (h := by decide)]
  rw [extractLsb'_append_high (h := by decide)]
  rw [extractLsb'_append_high (h := by decide)]
  rw [extractLsb'_append_high (h := by decide)]
  rw [extractLsb'_append_high (h := by decide)]
  rw [extractLsb'_append_low (h := by decide)]
  decide

@[simp] theorem bit22_loadStoreWord (c : Condition) (l b : BitVec 1) (hi : BitVec 2) (mid : BitVec 1) (lo : BitVec 20) :
    bit22 (loadStoreWord c l b hi mid lo) = b :=
  loadStoreWord_bits_22_1 c l b hi mid lo

@[simp] theorem bit20_loadStoreWord (c : Condition) (l b : BitVec 1) (hi : BitVec 2) (mid : BitVec 1) (lo : BitVec 20) :
    bit20 (loadStoreWord c l b hi mid lo) = l :=
  loadStoreWord_bits_20_1 c l b hi mid lo

@[simp] theorem condField_branchWord (c : Condition) (hi link : BitVec 1) (offset : BitVec 24) :
    condField (branchWord c hi link offset) = conditionCode c :=
  branchWord_bits_28_4 c hi link offset

@[simp] theorem classGate_branchWord (c : Condition) (hi link : BitVec 1) (offset : BitVec 24) :
    classGate (branchWord c hi link offset) = 0b10#2 :=
  branchWord_bits_26_2 c hi link offset

@[simp] theorem dpOp_branchWord (c : Condition) (hi link : BitVec 1) (offset : BitVec 24) :
    dpOp (branchWord c hi link offset) = hi :=
  branchWord_bits_25_1 c hi link offset

@[simp] theorem bit24_branchWord (c : Condition) (hi link : BitVec 1) (offset : BitVec 24) :
    bit24 (branchWord c hi link offset) = link :=
  branchWord_bits_24_1 c hi link offset

@[simp] theorem imm24_branchWord (c : Condition) (hi link : BitVec 1) (offset : BitVec 24) :
    imm24 (branchWord c hi link offset) = offset :=
  branchWord_bits_0_24 c hi link offset

@[simp] theorem condField_swiWord (c : Condition) (hi : BitVec 2) (imm : BitVec 24) :
    condField (swiWord c hi imm) = conditionCode c :=
  swiWord_bits_28_4 c hi imm

@[simp] theorem classGate_swiWord (c : Condition) (hi : BitVec 2) (imm : BitVec 24) :
    classGate (swiWord c hi imm) = 0b11#2 :=
  swiWord_bits_26_2 c hi imm

@[simp] theorem imm24_swiWord (c : Condition) (hi : BitVec 2) (imm : BitVec 24) :
    imm24 (swiWord c hi imm) = imm :=
  swiWord_bits_0_24 c hi imm

end Sys2Proof.Machine
end

