-- ==== Sys2Proof/Laws/PerInstr.lean ====
section
/-! SUPPORT. Per-instruction lemmas: the fields by which a word is recognised, read back from its encoding. -/

namespace Sys2Proof.Laws

open Sys2Proof.Machine

/-- The two top bits of the class field of an instruction's row (R63). -/
def EncodedFields.gate : Instr → BitVec 2
  | .andRegister _ _ _ _ => 0b00#2
  | .eorRegister _ _ _ _ => 0b00#2
  | .subRegister _ _ _ _ => 0b00#2
  | .rsbRegister _ _ _ _ => 0b00#2
  | .addRegister _ _ _ _ => 0b00#2
  | .adcRegister _ _ _ _ => 0b00#2
  | .sbcRegister _ _ _ _ => 0b00#2
  | .rscRegister _ _ _ _ => 0b00#2
  | .tstRegister _ _ _ => 0b00#2
  | .teqRegister _ _ _ => 0b00#2
  | .cmpRegister _ _ _ => 0b00#2
  | .cmnRegister _ _ _ => 0b00#2
  | .orrRegister _ _ _ _ => 0b00#2
  | .movRegister _ _ _ _ => 0b00#2
  | .bicRegister _ _ _ _ => 0b00#2
  | .mvnRegister _ _ _ _ => 0b00#2
  | .andRegisterShifted _ _ _ _ _ => 0b00#2
  | .eorRegisterShifted _ _ _ _ _ => 0b00#2
  | .subRegisterShifted _ _ _ _ _ => 0b00#2
  | .rsbRegisterShifted _ _ _ _ _ => 0b00#2
  | .addRegisterShifted _ _ _ _ _ => 0b00#2
  | .adcRegisterShifted _ _ _ _ _ => 0b00#2
  | .sbcRegisterShifted _ _ _ _ _ => 0b00#2
  | .rscRegisterShifted _ _ _ _ _ => 0b00#2
  | .tstRegisterShifted _ _ _ _ => 0b00#2
  | .teqRegisterShifted _ _ _ _ => 0b00#2
  | .cmpRegisterShifted _ _ _ _ => 0b00#2
  | .cmnRegisterShifted _ _ _ _ => 0b00#2
  | .orrRegisterShifted _ _ _ _ _ => 0b00#2
  | .movRegisterShifted _ _ _ _ _ => 0b00#2
  | .bicRegisterShifted _ _ _ _ _ => 0b00#2
  | .mvnRegisterShifted _ _ _ _ _ => 0b00#2
  | .andImmediate _ _ _ => 0b00#2
  | .eorImmediate _ _ _ => 0b00#2
  | .subImmediate _ _ _ => 0b00#2
  | .rsbImmediate _ _ _ => 0b00#2
  | .addImmediate _ _ _ => 0b00#2
  | .adcImmediate _ _ _ => 0b00#2
  | .sbcImmediate _ _ _ => 0b00#2
  | .rscImmediate _ _ _ => 0b00#2
  | .tstImmediate _ _ => 0b00#2
  | .teqImmediate _ _ => 0b00#2
  | .cmpImmediate _ _ => 0b00#2
  | .cmnImmediate _ _ => 0b00#2
  | .orrImmediate _ _ _ => 0b00#2
  | .movImmediate _ _ _ => 0b00#2
  | .bicImmediate _ _ _ => 0b00#2
  | .mvnImmediate _ _ _ => 0b00#2
  | .ldr _ _ _ _ => 0b01#2
  | .str _ _ _ _ => 0b01#2
  | .ldrb _ _ _ _ => 0b01#2
  | .strb _ _ _ _ => 0b01#2
  | .b _ _ _ => 0b10#2
  | .bl _ _ _ => 0b10#2
  | .swi _ _ _ => 0b11#2

/-- An encoded instruction shows its condition in bits 31:28 and its class gate in bits 27:26. -/
def EncodedFields.Statement (i : Instr) : Prop :=
  condField (encode i) = conditionCode (instrCondition i) ∧ classGate (encode i) = EncodedFields.gate i

theorem EncodedFields.andRegister (c : Condition) (f : BitVec 1) (hi : BitVec 15) (lo : BitVec 4) :
    EncodedFields.Statement (.andRegister c f hi lo) :=
  ⟨condField_registerWord _ _ _ _ _, classGate_registerWord _ _ _ _ _⟩

theorem EncodedFields.eorRegister (c : Condition) (f : BitVec 1) (hi : BitVec 15) (lo : BitVec 4) :
    EncodedFields.Statement (.eorRegister c f hi lo) :=
  ⟨condField_registerWord _ _ _ _ _, classGate_registerWord _ _ _ _ _⟩

theorem EncodedFields.subRegister (c : Condition) (f : BitVec 1) (hi : BitVec 15) (lo : BitVec 4) :
    EncodedFields.Statement (.subRegister c f hi lo) :=
  ⟨condField_registerWord _ _ _ _ _, classGate_registerWord _ _ _ _ _⟩

theorem EncodedFields.rsbRegister (c : Condition) (f : BitVec 1) (hi : BitVec 15) (lo : BitVec 4) :
    EncodedFields.Statement (.rsbRegister c f hi lo) :=
  ⟨condField_registerWord _ _ _ _ _, classGate_registerWord _ _ _ _ _⟩

theorem EncodedFields.addRegister (c : Condition) (f : BitVec 1) (hi : BitVec 15) (lo : BitVec 4) :
    EncodedFields.Statement (.addRegister c f hi lo) :=
  ⟨condField_registerWord _ _ _ _ _, classGate_registerWord _ _ _ _ _⟩

theorem EncodedFields.adcRegister (c : Condition) (f : BitVec 1) (hi : BitVec 15) (lo : BitVec 4) :
    EncodedFields.Statement (.adcRegister c f hi lo) :=
  ⟨condField_registerWord _ _ _ _ _, classGate_registerWord _ _ _ _ _⟩

theorem EncodedFields.sbcRegister (c : Condition) (f : BitVec 1) (hi : BitVec 15) (lo : BitVec 4) :
    EncodedFields.Statement (.sbcRegister c f hi lo) :=
  ⟨condField_registerWord _ _ _ _ _, classGate_registerWord _ _ _ _ _⟩

theorem EncodedFields.rscRegister (c : Condition) (f : BitVec 1) (hi : BitVec 15) (lo : BitVec 4) :
    EncodedFields.Statement (.rscRegister c f hi lo) :=
  ⟨condField_registerWord _ _ _ _ _, classGate_registerWord _ _ _ _ _⟩

theorem EncodedFields.tstRegister (c : Condition) (hi : BitVec 15) (lo : BitVec 4) :
    EncodedFields.Statement (.tstRegister c hi lo) :=
  ⟨condField_registerWord _ _ _ _ _, classGate_registerWord _ _ _ _ _⟩

theorem EncodedFields.teqRegister (c : Condition) (hi : BitVec 15) (lo : BitVec 4) :
    EncodedFields.Statement (.teqRegister c hi lo) :=
  ⟨condField_registerWord _ _ _ _ _, classGate_registerWord _ _ _ _ _⟩

theorem EncodedFields.cmpRegister (c : Condition) (hi : BitVec 15) (lo : BitVec 4) :
    EncodedFields.Statement (.cmpRegister c hi lo) :=
  ⟨condField_registerWord _ _ _ _ _, classGate_registerWord _ _ _ _ _⟩

theorem EncodedFields.cmnRegister (c : Condition) (hi : BitVec 15) (lo : BitVec 4) :
    EncodedFields.Statement (.cmnRegister c hi lo) :=
  ⟨condField_registerWord _ _ _ _ _, classGate_registerWord _ _ _ _ _⟩

theorem EncodedFields.orrRegister (c : Condition) (f : BitVec 1) (hi : BitVec 15) (lo : BitVec 4) :
    EncodedFields.Statement (.orrRegister c f hi lo) :=
  ⟨condField_registerWord _ _ _ _ _, classGate_registerWord _ _ _ _ _⟩

theorem EncodedFields.movRegister (c : Condition) (f : BitVec 1) (hi : BitVec 15) (lo : BitVec 4) :
    EncodedFields.Statement (.movRegister c f hi lo) :=
  ⟨condField_registerWord _ _ _ _ _, classGate_registerWord _ _ _ _ _⟩

theorem EncodedFields.bicRegister (c : Condition) (f : BitVec 1) (hi : BitVec 15) (lo : BitVec 4) :
    EncodedFields.Statement (.bicRegister c f hi lo) :=
  ⟨condField_registerWord _ _ _ _ _, classGate_registerWord _ _ _ _ _⟩

theorem EncodedFields.mvnRegister (c : Condition) (f : BitVec 1) (hi : BitVec 15) (lo : BitVec 4) :
    EncodedFields.Statement (.mvnRegister c f hi lo) :=
  ⟨condField_registerWord _ _ _ _ _, classGate_registerWord _ _ _ _ _⟩

theorem EncodedFields.andRegisterShifted (c : Condition) (f : BitVec 1) (hi : BitVec 12) (mid : BitVec 2) (lo : BitVec 4) :
    EncodedFields.Statement (.andRegisterShifted c f hi mid lo) :=
  ⟨condField_registerShiftedWord _ _ _ _ _ _, classGate_registerShiftedWord _ _ _ _ _ _⟩

theorem EncodedFields.eorRegisterShifted (c : Condition) (f : BitVec 1) (hi : BitVec 12) (mid : BitVec 2) (lo : BitVec 4) :
    EncodedFields.Statement (.eorRegisterShifted c f hi mid lo) :=
  ⟨condField_registerShiftedWord _ _ _ _ _ _, classGate_registerShiftedWord _ _ _ _ _ _⟩

theorem EncodedFields.subRegisterShifted (c : Condition) (f : BitVec 1) (hi : BitVec 12) (mid : BitVec 2) (lo : BitVec 4) :
    EncodedFields.Statement (.subRegisterShifted c f hi mid lo) :=
  ⟨condField_registerShiftedWord _ _ _ _ _ _, classGate_registerShiftedWord _ _ _ _ _ _⟩

theorem EncodedFields.rsbRegisterShifted (c : Condition) (f : BitVec 1) (hi : BitVec 12) (mid : BitVec 2) (lo : BitVec 4) :
    EncodedFields.Statement (.rsbRegisterShifted c f hi mid lo) :=
  ⟨condField_registerShiftedWord _ _ _ _ _ _, classGate_registerShiftedWord _ _ _ _ _ _⟩

theorem EncodedFields.addRegisterShifted (c : Condition) (f : BitVec 1) (hi : BitVec 12) (mid : BitVec 2) (lo : BitVec 4) :
    EncodedFields.Statement (.addRegisterShifted c f hi mid lo) :=
  ⟨condField_registerShiftedWord _ _ _ _ _ _, classGate_registerShiftedWord _ _ _ _ _ _⟩

theorem EncodedFields.adcRegisterShifted (c : Condition) (f : BitVec 1) (hi : BitVec 12) (mid : BitVec 2) (lo : BitVec 4) :
    EncodedFields.Statement (.adcRegisterShifted c f hi mid lo) :=
  ⟨condField_registerShiftedWord _ _ _ _ _ _, classGate_registerShiftedWord _ _ _ _ _ _⟩

theorem EncodedFields.sbcRegisterShifted (c : Condition) (f : BitVec 1) (hi : BitVec 12) (mid : BitVec 2) (lo : BitVec 4) :
    EncodedFields.Statement (.sbcRegisterShifted c f hi mid lo) :=
  ⟨condField_registerShiftedWord _ _ _ _ _ _, classGate_registerShiftedWord _ _ _ _ _ _⟩

theorem EncodedFields.rscRegisterShifted (c : Condition) (f : BitVec 1) (hi : BitVec 12) (mid : BitVec 2) (lo : BitVec 4) :
    EncodedFields.Statement (.rscRegisterShifted c f hi mid lo) :=
  ⟨condField_registerShiftedWord _ _ _ _ _ _, classGate_registerShiftedWord _ _ _ _ _ _⟩

theorem EncodedFields.tstRegisterShifted (c : Condition) (hi : BitVec 12) (mid : BitVec 2) (lo : BitVec 4) :
    EncodedFields.Statement (.tstRegisterShifted c hi mid lo) :=
  ⟨condField_registerShiftedWord _ _ _ _ _ _, classGate_registerShiftedWord _ _ _ _ _ _⟩

theorem EncodedFields.teqRegisterShifted (c : Condition) (hi : BitVec 12) (mid : BitVec 2) (lo : BitVec 4) :
    EncodedFields.Statement (.teqRegisterShifted c hi mid lo) :=
  ⟨condField_registerShiftedWord _ _ _ _ _ _, classGate_registerShiftedWord _ _ _ _ _ _⟩

theorem EncodedFields.cmpRegisterShifted (c : Condition) (hi : BitVec 12) (mid : BitVec 2) (lo : BitVec 4) :
    EncodedFields.Statement (.cmpRegisterShifted c hi mid lo) :=
  ⟨condField_registerShiftedWord _ _ _ _ _ _, classGate_registerShiftedWord _ _ _ _ _ _⟩

theorem EncodedFields.cmnRegisterShifted (c : Condition) (hi : BitVec 12) (mid : BitVec 2) (lo : BitVec 4) :
    EncodedFields.Statement (.cmnRegisterShifted c hi mid lo) :=
  ⟨condField_registerShiftedWord _ _ _ _ _ _, classGate_registerShiftedWord _ _ _ _ _ _⟩

theorem EncodedFields.orrRegisterShifted (c : Condition) (f : BitVec 1) (hi : BitVec 12) (mid : BitVec 2) (lo : BitVec 4) :
    EncodedFields.Statement (.orrRegisterShifted c f hi mid lo) :=
  ⟨condField_registerShiftedWord _ _ _ _ _ _, classGate_registerShiftedWord _ _ _ _ _ _⟩

theorem EncodedFields.movRegisterShifted (c : Condition) (f : BitVec 1) (hi : BitVec 12) (mid : BitVec 2) (lo : BitVec 4) :
    EncodedFields.Statement (.movRegisterShifted c f hi mid lo) :=
  ⟨condField_registerShiftedWord _ _ _ _ _ _, classGate_registerShiftedWord _ _ _ _ _ _⟩

theorem EncodedFields.bicRegisterShifted (c : Condition) (f : BitVec 1) (hi : BitVec 12) (mid : BitVec 2) (lo : BitVec 4) :
    EncodedFields.Statement (.bicRegisterShifted c f hi mid lo) :=
  ⟨condField_registerShiftedWord _ _ _ _ _ _, classGate_registerShiftedWord _ _ _ _ _ _⟩

theorem EncodedFields.mvnRegisterShifted (c : Condition) (f : BitVec 1) (hi : BitVec 12) (mid : BitVec 2) (lo : BitVec 4) :
    EncodedFields.Statement (.mvnRegisterShifted c f hi mid lo) :=
  ⟨condField_registerShiftedWord _ _ _ _ _ _, classGate_registerShiftedWord _ _ _ _ _ _⟩

theorem EncodedFields.andImmediate (c : Condition) (f : BitVec 1) (lo : BitVec 20) :
    EncodedFields.Statement (.andImmediate c f lo) :=
  ⟨condField_immediateWord _ _ _ _, classGate_immediateWord _ _ _ _⟩

theorem EncodedFields.eorImmediate (c : Condition) (f : BitVec 1) (lo : BitVec 20) :
    EncodedFields.Statement (.eorImmediate c f lo) :=
  ⟨condField_immediateWord _ _ _ _, classGate_immediateWord _ _ _ _⟩

theorem EncodedFields.subImmediate (c : Condition) (f : BitVec 1) (lo : BitVec 20) :
    EncodedFields.Statement (.subImmediate c f lo) :=
  ⟨condField_immediateWord _ _ _ _, classGate_immediateWord _ _ _ _⟩

theorem EncodedFields.rsbImmediate (c : Condition) (f : BitVec 1) (lo : BitVec 20) :
    EncodedFields.Statement (.rsbImmediate c f lo) :=
  ⟨condField_immediateWord _ _ _ _, classGate_immediateWord _ _ _ _⟩

theorem EncodedFields.addImmediate (c : Condition) (f : BitVec 1) (lo : BitVec 20) :
    EncodedFields.Statement (.addImmediate c f lo) :=
  ⟨condField_immediateWord _ _ _ _, classGate_immediateWord _ _ _ _⟩

theorem EncodedFields.adcImmediate (c : Condition) (f : BitVec 1) (lo : BitVec 20) :
    EncodedFields.Statement (.adcImmediate c f lo) :=
  ⟨condField_immediateWord _ _ _ _, classGate_immediateWord _ _ _ _⟩

theorem EncodedFields.sbcImmediate (c : Condition) (f : BitVec 1) (lo : BitVec 20) :
    EncodedFields.Statement (.sbcImmediate c f lo) :=
  ⟨condField_immediateWord _ _ _ _, classGate_immediateWord _ _ _ _⟩

theorem EncodedFields.rscImmediate (c : Condition) (f : BitVec 1) (lo : BitVec 20) :
    EncodedFields.Statement (.rscImmediate c f lo) :=
  ⟨condField_immediateWord _ _ _ _, classGate_immediateWord _ _ _ _⟩

theorem EncodedFields.tstImmediate (c : Condition) (lo : BitVec 20) :
    EncodedFields.Statement (.tstImmediate c lo) :=
  ⟨condField_immediateWord _ _ _ _, classGate_immediateWord _ _ _ _⟩

theorem EncodedFields.teqImmediate (c : Condition) (lo : BitVec 20) :
    EncodedFields.Statement (.teqImmediate c lo) :=
  ⟨condField_immediateWord _ _ _ _, classGate_immediateWord _ _ _ _⟩

theorem EncodedFields.cmpImmediate (c : Condition) (lo : BitVec 20) :
    EncodedFields.Statement (.cmpImmediate c lo) :=
  ⟨condField_immediateWord _ _ _ _, classGate_immediateWord _ _ _ _⟩

theorem EncodedFields.cmnImmediate (c : Condition) (lo : BitVec 20) :
    EncodedFields.Statement (.cmnImmediate c lo) :=
  ⟨condField_immediateWord _ _ _ _, classGate_immediateWord _ _ _ _⟩

theorem EncodedFields.orrImmediate (c : Condition) (f : BitVec 1) (lo : BitVec 20) :
    EncodedFields.Statement (.orrImmediate c f lo) :=
  ⟨condField_immediateWord _ _ _ _, classGate_immediateWord _ _ _ _⟩

theorem EncodedFields.movImmediate (c : Condition) (f : BitVec 1) (lo : BitVec 20) :
    EncodedFields.Statement (.movImmediate c f lo) :=
  ⟨condField_immediateWord _ _ _ _, classGate_immediateWord _ _ _ _⟩

theorem EncodedFields.bicImmediate (c : Condition) (f : BitVec 1) (lo : BitVec 20) :
    EncodedFields.Statement (.bicImmediate c f lo) :=
  ⟨condField_immediateWord _ _ _ _, classGate_immediateWord _ _ _ _⟩

theorem EncodedFields.mvnImmediate (c : Condition) (f : BitVec 1) (lo : BitVec 20) :
    EncodedFields.Statement (.mvnImmediate c f lo) :=
  ⟨condField_immediateWord _ _ _ _, classGate_immediateWord _ _ _ _⟩

theorem EncodedFields.ldr (c : Condition) (hi : BitVec 2) (mid : BitVec 1) (lo : BitVec 20) :
    EncodedFields.Statement (.ldr c hi mid lo) :=
  ⟨condField_loadStoreWord _ _ _ _ _ _, classGate_loadStoreWord _ _ _ _ _ _⟩

theorem EncodedFields.str (c : Condition) (hi : BitVec 2) (mid : BitVec 1) (lo : BitVec 20) :
    EncodedFields.Statement (.str c hi mid lo) :=
  ⟨condField_loadStoreWord _ _ _ _ _ _, classGate_loadStoreWord _ _ _ _ _ _⟩

theorem EncodedFields.ldrb (c : Condition) (hi : BitVec 2) (mid : BitVec 1) (lo : BitVec 20) :
    EncodedFields.Statement (.ldrb c hi mid lo) :=
  ⟨condField_loadStoreWord _ _ _ _ _ _, classGate_loadStoreWord _ _ _ _ _ _⟩

theorem EncodedFields.strb (c : Condition) (hi : BitVec 2) (mid : BitVec 1) (lo : BitVec 20) :
    EncodedFields.Statement (.strb c hi mid lo) :=
  ⟨condField_loadStoreWord _ _ _ _ _ _, classGate_loadStoreWord _ _ _ _ _ _⟩

theorem EncodedFields.b (c : Condition) (hi : BitVec 1) (offset : BitVec 24) :
    EncodedFields.Statement (.b c hi offset) :=
  ⟨condField_branchWord _ _ _ _, classGate_branchWord _ _ _ _⟩

theorem EncodedFields.bl (c : Condition) (hi : BitVec 1) (offset : BitVec 24) :
    EncodedFields.Statement (.bl c hi offset) :=
  ⟨condField_branchWord _ _ _ _, classGate_branchWord _ _ _ _⟩

theorem EncodedFields.swi (c : Condition) (hi : BitVec 2) (imm : BitVec 24) :
    EncodedFields.Statement (.swi c hi imm) :=
  ⟨condField_swiWord _ _ _, classGate_swiWord _ _ _⟩

end Sys2Proof.Laws
end

