-- ==== Sys2Proof/Laws/State.lean ====
section
/-! SUPPORT. One lemma per field per update of State, and of the outputs a word is given. -/

namespace Sys2Proof.Machine

@[simp] theorem settle_params (s : State) (d : DecodeOutputs) : (s.settle d).params = s.params := rfl
@[simp] theorem settle_decWord (s : State) (d : DecodeOutputs) : (s.settle d).decWord = s.decWord := rfl
@[simp] theorem settle_encIn (s : State) (d : DecodeOutputs) : (s.settle d).encIn = s.encIn := rfl
@[simp] theorem settle_decOut (s : State) (d : DecodeOutputs) : (s.settle d).decOut = d := rfl
@[simp] theorem settle_encOut (s : State) (d : DecodeOutputs) : (s.settle d).encOut = encodeGroup s.encIn := rfl

@[simp] theorem driveDecWord_params (s : State) (w : Word) : (s.driveDecWord w).params = s.params := rfl
@[simp] theorem driveDecWord_decWord (s : State) (w : Word) : (s.driveDecWord w).decWord = w := rfl
@[simp] theorem driveDecWord_encIn (s : State) (w : Word) : (s.driveDecWord w).encIn = s.encIn := rfl
@[simp] theorem driveDecWord_decOut (s : State) (w : Word) : (s.driveDecWord w).decOut = s.decOut := rfl
@[simp] theorem driveDecWord_encOut (s : State) (w : Word) : (s.driveDecWord w).encOut = s.encOut := rfl

@[simp] theorem driveEncode_params (s : State) (e : EncodeInputs) : (s.driveEncode e).params = s.params := rfl
@[simp] theorem driveEncode_decWord (s : State) (e : EncodeInputs) : (s.driveEncode e).decWord = s.decWord := rfl
@[simp] theorem driveEncode_encIn (s : State) (e : EncodeInputs) : (s.driveEncode e).encIn = e := rfl
@[simp] theorem driveEncode_decOut (s : State) (e : EncodeInputs) : (s.driveEncode e).decOut = s.decOut := rfl
@[simp] theorem driveEncode_encOut (s : State) (e : EncodeInputs) : (s.driveEncode e).encOut = s.encOut := rfl

@[simp] theorem withFetchWord_params (s : State) (n w : Nat) : (s.withFetchWord n w).params = s.params := rfl
@[simp] theorem withFetchWord_decWord (s : State) (n w : Nat) :
    (s.withFetchWord n w).decWord = BitVec.ofNat 32 (w % 2 ^ n) := rfl
@[simp] theorem withFetchWord_encIn (s : State) (n w : Nat) : (s.withFetchWord n w).encIn = s.encIn := rfl

section
variable (w : Word) (c : Option Condition) (k : Option InstructionClass) (f : Option DataProcessingForm) (m : Mnemonic)

@[simp] theorem drivenOutputs_condValid : (drivenOutputs w c k f m).condValid = c.isSome := rfl
@[simp] theorem drivenOutputs_condCode : (drivenOutputs w c k f m).condCode = (c.map conditionCode).getD 0 := rfl
@[simp] theorem drivenOutputs_classValid : (drivenOutputs w c k f m).classValid = k.isSome := rfl
@[simp] theorem drivenOutputs_classId : (drivenOutputs w c k f m).classId = (k.map classId).getD 0 := rfl
@[simp] theorem drivenOutputs_subformValid : (drivenOutputs w c k f m).subformValid = f.isSome := rfl
@[simp] theorem drivenOutputs_subformId : (drivenOutputs w c k f m).subformId = (f.map formId).getD 0 := rfl
@[simp] theorem drivenOutputs_subformConflict : (drivenOutputs w c k f m).subformConflict = subformConflict w := rfl
@[simp] theorem drivenOutputs_errCond : (drivenOutputs w c k f m).errCond = !c.isSome := rfl
@[simp] theorem drivenOutputs_errClass : (drivenOutputs w c k f m).errClass = !k.isSome := rfl
@[simp] theorem drivenOutputs_errSubform :
    (drivenOutputs w c k f m).errSubform = (classGate w == 0b00#2 && !f.isSome) := rfl
@[simp] theorem drivenOutputs_mnemId : (drivenOutputs w c k f m).mnemId = mnemonicId m := rfl
@[simp] theorem drivenOutputs_swiImm24 : (drivenOutputs w c k f m).swiImm24 = mnemonicImm24 m := rfl
@[simp] theorem drivenOutputs_undefWord : (drivenOutputs w c k f m).undefWord = mnemonicWord m := rfl
@[simp] theorem drivenOutputs_wordOut : (drivenOutputs w c k f m).wordOut = w := rfl

end

/-- All that `resolve` can do: it goes on, the decode outputs are the given ones, the encode outputs follow from their
inputs, and parameters and inputs stay. -/
theorem resolve_eq_next {s t : State} {c : Condition} {k : InstructionClass} {f : Option DataProcessingForm}
    {m : Mnemonic} {w : Word} :
    s.resolve c k f m w = .next t ↔ t = s.settle (drivenOutputs w (some c) (some k) f m) :=
  ⟨fun h => (Host.Outcome.next.inj h).symm, fun h => h ▸ rfl⟩

/-- All that an unresolved word can do. -/
theorem execUndefined_eq_next {s t : State} {w : Word} :
    execUndefined w s = .next t ↔
      t = s.settle (decodeOutputs w (decodeCondition w) (decodeClass s.params.class11xPolicy w) (.undefined w)) :=
  ⟨fun h => (Host.Outcome.next.inj h).symm, fun h => h ▸ rfl⟩

end Sys2Proof.Machine
end

