-- ==== Sys2Proof/Tests/Slice0.lean ====
section
/-! SUPPORT. Tests of the model's author: words and values from the spec (95_test_vectors.md and the encodings of
spec/opcode_table.json), the WellFormed smoke test, and a witness for the hypotheses of every statement. -/

namespace Sys2Proof.Tests

open Sys2Proof Sys2Proof.Machine

/-! ### Decoding: one word per constructor, written out from its encoding; free bits chosen unlike each other -/

theorem test_decode_register_a :
    decode .supervisorCall 0b1001_000_0000_1_011001001101100_0_0011 = .ok (.andRegister .ls 1 12908 3) ∧
    decode .supervisorCall 0b1101_000_0001_1_011010011111111_0_0010 = .ok (.eorRegister .le 1 13567 2) ∧
    decode .supervisorCall 0b1101_000_0010_1_001100110000101_0_1101 = .ok (.subRegister .le 1 6533 13) ∧
    decode .supervisorCall 0b0000_000_0011_0_101000010110101_0_0011 = .ok (.rsbRegister .eq 0 20661 3) ∧
    decode .supervisorCall 0b1101_000_0100_1_000111110110010_0_1010 = .ok (.addRegister .le 1 4018 10) ∧
    decode .supervisorCall 0b0011_000_0101_1_010110110111001_0_1001 = .ok (.adcRegister .cc 1 11705 9) ∧
    decode .supervisorCall 0b0010_000_0110_0_100101011001110_0_0010 = .ok (.sbcRegister .cs 0 19150 2) ∧
    decode .supervisorCall 0b1100_000_0111_0_000100011101001_0_0101 = .ok (.rscRegister .gt 0 2281 5) := by
  decide

theorem test_decode_register_b :
    decode .supervisorCall 0b0111_000_1000_1_011011110101110_0_0110 = .ok (.tstRegister .vc 14254 6) ∧
    decode .supervisorCall 0b0011_000_1001_1_000010100011110_0_1010 = .ok (.teqRegister .cc 1310 10) ∧
    decode .supervisorCall 0b0010_000_1010_1_000011111110011_0_0101 = .ok (.cmpRegister .cs 2035 5) ∧
    decode .supervisorCall 0b1110_000_1011_1_100001100100110_0_0100 = .ok (.cmnRegister .al 17190 4) ∧
    decode .supervisorCall 0b1011_000_1100_0_011001101010101_0_0011 = .ok (.orrRegister .lt 0 13141 3) ∧
    decode .supervisorCall 0b0101_000_1101_0_001101110101001_0_1001 = .ok (.movRegister .pl 0 7081 9) ∧
    decode .supervisorCall 0b0001_000_1110_0_111101000110101_0_0110 = .ok (.bicRegister .ne 0 31285 6) ∧
    decode .supervisorCall 0b0000_000_1111_0_100100100001001_0_1001 = .ok (.mvnRegister .eq 0 18697 9) := by
  decide

theorem test_decode_register_shifted_a :
    decode .supervisorCall 0b1011_000_0000_1_110010001111_0_01_1_1011 = .ok (.andRegisterShifted .lt 1 3215 1 11) ∧
    decode .supervisorCall 0b1010_000_0001_0_000111010111_0_10_1_1010 = .ok (.eorRegisterShifted .ge 0 471 2 10) ∧
    decode .supervisorCall 0b1100_000_0010_1_011111111101_0_01_1_0111 = .ok (.subRegisterShifted .gt 1 2045 1 7) ∧
    decode .supervisorCall 0b0010_000_0011_0_111110110001_0_00_1_1111 = .ok (.rsbRegisterShifted .cs 0 4017 0 15) ∧
    decode .supervisorCall 0b0110_000_0100_1_001100111110_0_00_1_0110 = .ok (.addRegisterShifted .vs 1 830 0 6) ∧
    decode .supervisorCall 0b1011_000_0101_1_011110111001_0_01_1_1010 = .ok (.adcRegisterShifted .lt 1 1977 1 10) ∧
    decode .supervisorCall 0b1101_000_0110_0_000001101001_0_10_1_0100 = .ok (.sbcRegisterShifted .le 0 105 2 4) ∧
    decode .supervisorCall 0b0001_000_0111_1_100001100100_0_01_1_1110 = .ok (.rscRegisterShifted .ne 1 2148 1 14) := by
  decide

theorem test_decode_register_shifted_b :
    decode .supervisorCall 0b0010_000_1000_1_011101000101_0_00_1_0011 = .ok (.tstRegisterShifted .cs 1861 0 3) ∧
    decode .supervisorCall 0b0011_000_1001_1_110010101110_0_01_1_1011 = .ok (.teqRegisterShifted .cc 3246 1 11) ∧
    decode .supervisorCall 0b0101_000_1010_1_001000110110_0_01_1_1111 = .ok (.cmpRegisterShifted .pl 566 1 15) ∧
    decode .supervisorCall 0b1010_000_1011_1_011011000110_0_11_1_0010 = .ok (.cmnRegisterShifted .ge 1734 3 2) ∧
    decode .supervisorCall 0b1110_000_1100_0_000110101110_0_11_1_0101 = .ok (.orrRegisterShifted .al 0 430 3 5) ∧
    decode .supervisorCall 0b0010_000_1101_1_100100000001_0_01_1_1001 = .ok (.movRegisterShifted .cs 1 2305 1 9) ∧
    decode .supervisorCall 0b0100_000_1110_1_010000010010_0_10_1_1000 = .ok (.bicRegisterShifted .mi 1 1042 2 8) ∧
    decode .supervisorCall 0b1010_000_1111_1_001010100100_0_01_1_1010 = .ok (.mvnRegisterShifted .ge 1 676 1 10) := by
  decide

theorem test_decode_immediate_a :
    decode .supervisorCall 0b1100_001_0000_0_11000001000111111101 = .ok (.andImmediate .gt 0 791037) ∧
    decode .supervisorCall 0b1000_001_0001_1_01101100111000101110 = .ok (.eorImmediate .hi 1 445998) ∧
    decode .supervisorCall 0b0011_001_0010_0_00100011001100100101 = .ok (.subImmediate .cc 0 144165) ∧
    decode .supervisorCall 0b0101_001_0011_0_00010100111010001010 = .ok (.rsbImmediate .pl 0 85642) ∧
    decode .supervisorCall 0b0001_001_0100_0_11101101110011110100 = .ok (.addImmediate .ne 0 974068) ∧
    decode .supervisorCall 0b0110_001_0101_1_10001100001010000001 = .ok (.adcImmediate .vs 1 574081) ∧
    decode .supervisorCall 0b0110_001_0110_0_11011011110100100101 = .ok (.sbcImmediate .vs 0 900389) ∧
    decode .supervisorCall 0b1001_001_0111_0_00010001010111100100 = .ok (.rscImmediate .ls 0 71140) := by
  decide

theorem test_decode_immediate_b :
    decode .supervisorCall 0b1101_001_1000_1_01011100001100111011 = .ok (.tstImmediate .le 377659) ∧
    decode .supervisorCall 0b0010_001_1001_1_01010110000111011000 = .ok (.teqImmediate .cs 352728) ∧
    decode .supervisorCall 0b0011_001_1010_1_00001010100011001001 = .ok (.cmpImmediate .cc 43209) ∧
    decode .supervisorCall 0b0010_001_1011_1_11100011110011011001 = .ok (.cmnImmediate .cs 933081) ∧
    decode .supervisorCall 0b0100_001_1100_1_10000101101000000001 = .ok (.orrImmediate .mi 1 547329) ∧
    decode .supervisorCall 0b0010_001_1101_1_10001001001011011111 = .ok (.movImmediate .cs 1 561887) ∧
    decode .supervisorCall 0b1001_001_1110_0_00001101010110101000 = .ok (.bicImmediate .ls 0 54696) ∧
    decode .supervisorCall 0b0101_001_1111_0_11100110110110001110 = .ok (.mvnImmediate .pl 0 945550) := by
  decide

theorem test_decode_load_store :
    decode .supervisorCall 0b0100_010_11_0_1_1_11111000010011100110 = .ok (.ldr .mi 3 1 1017062) ∧
    decode .supervisorCall 0b1101_010_01_0_1_0_01011010001110100010 = .ok (.str .le 1 1 369570) ∧
    decode .supervisorCall 0b0111_010_10_1_1_1_01001000100100011001 = .ok (.ldrb .vc 2 1 297241) ∧
    decode .supervisorCall 0b0101_010_01_1_1_0_01001101010011001000 = .ok (.strb .pl 1 1 316616) := by
  decide

theorem test_decode_branch :
    decode .supervisorCall 0b0111_10_1_0_100011111000010001011111 = .ok (.b .vc 1 9405535) ∧
    decode .supervisorCall 0b1011_10_1_1_110100010110001101001011 = .ok (.bl .lt 1 13722443) := by
  decide

theorem test_decode_swi :
    decode .supervisorCall 0b0000_11_00_000110010101001000011111 = .ok (.swi .eq 0 1659423) := by
  decide

/-! ### WellFormed: the one check, refused and passed -/

theorem test_swi_ill_formed_under_reject : (Instr.swi .al 0b11 0x11).wf .reject = false := by decide

theorem test_swi_well_formed_under_supervisor_call : (Instr.swi .al 0b11 0x11).wf .supervisorCall = true := by decide

/-! ### Words the block resolves to nothing (tables V-M1 and V-S1) -/

theorem test_rejects_by_name :
    decode .supervisorCall 0xF0812003 = .error .unrecognizedCondition ∧
    decode .reject 0xEF000011 = .error .unrecognizedClass ∧
    decode .supervisorCall 0xE1400000 = .error .unresolvedSubform ∧
    decode .supervisorCall 0xE1E0F0F0 = .error .unresolvedSubform ∧
    decode .supervisorCall 0xE7912003 = .error .loadStoreMultiple ∧
    decode .supervisorCall 0xE7912013 = .error .media ∧
    decodeBytes .supervisorCall .littleEndian [0x03, 0x20, 0x81] = .error .truncated := by
  decide

/-! ### Spec vectors -/

theorem test_bit_field_table :
    bfRead 0x00000012 [4, 1, 0] = .ok 0b110 ∧ bfRead 0x00000012 [0, 1, 4] = .ok 0b11 ∧
    bfRead 0x80000001 [0, 31] = .ok 0b11 ∧ bfWrite 0x00000000 0b110 [0, 1, 4] = .ok 0x00000003 ∧
    bfWrite 0x12345678 0xFF [3, 2, 1, 0] = .ok 0x1234567F ∧ bfWrite 0x00000000 1 [31] = .ok 0x80000000 ∧
    bfMatch 0xF0000000 [31, 30, 29, 28] 0b1110 = .ok false ∧
    bfRead 0 [] = .error (.invalidBitPosition []) ∧ bfRead 0 [32] = .error (.invalidBitPosition [32]) ∧
    bfWrite 0 3 [4, 4] = .error (.invalidBitPosition [4, 4]) ∧
    bfMatch 0 [31, 40] 0 = .error (.invalidBitPosition [31, 40]) := by
  decide

theorem test_encode_class_table :
    encodeClass .loadStoreMultiple 0xFFFFFFFF = 0xF7FFFFEF ∧ encodeClass .media 0x00000000 = 0x06000010 ∧
    encodeClass .branch 0xE8000000 = 0xEA000000 ∧ encodeClass .loadStore 0xE0000010 = 0xE4000010 := by
  decide

theorem test_encode_subform_table :
    encodeSubform .extraLoadStoreUnprivileged 0xFFFFFFFF = 0xFCFFFFBF ∧
    encodeSubform .miscellaneous 0xE1A0F0F0 = 0xE120F070 ∧ encodeSubform .movImmediate16 0xFFFFFFFF = 0xFF0FFFFF ∧
    decodeSubform 0xE1200010 = some .miscellaneous ∧ decodeSubform 0xE02000B0 = some .extraLoadStoreUnprivileged ∧
    decodeSubform 0xE3600000 = some .msrImmediateHints := by
  decide

theorem test_encode_instruction_table :
    encodeInstruction .and 0x00012003 = 0xE0012003 ∧ encodeInstruction .tst 0x02000000 = 0xE3100000 ∧
    encodeInstruction .mvn 0xFFFFFFFF = 0xE3FFFFFF ∧ encodeInstruction .cmp 0x00000010 = 0xE1500010 ∧
    encodeInstruction .ldr 0xFFFFFFFF = 0xE5BFFFFF ∧ encodeInstruction .strb 0x00000010 = 0xE4400010 ∧
    encodeInstruction .bl 0x00FFFFFF = 0xEBFFFFFF ∧ encodeInstruction (.swi 0x123456) 0xFFFFFFFF = 0xEF123456 ∧
    encodeInstruction (.undefined 0x12345678) 0 = 0x12345678 ∧ encodeInstruction .orr 0x00100211 = 0xE1900211 := by
  decide

/-! ### Steps -/

/-- A reset block with a word on its decode input and a policy. -/
def block (p : Class11xPolicy) (w : Word) : State :=
  { State.reset with params := { Params.default with class11xPolicy := p }, decWord := w }

/-- The decode outputs after one step; the old ones if it does not go on. -/
def outputsAfter (s : State) : DecodeOutputs :=
  match step s with
  | .next t => t.decOut
  | .fault _ => s.decOut
  | .refused _ => s.decOut

/-- Table V-E1, row 0xE0812003. -/
theorem test_step_add : outputsAfter (block .supervisorCall 0xE0812003) =
    { condValid := true, condCode := 14, classValid := true, classId := 0, subformValid := true, subformId := 0,
      subformConflict := false, errCond := false, errClass := false, errSubform := false, mnemId := 4, swiImm24 := 0,
      undefWord := 0, wordOut := 0xE0812003 } := by
  decide

/-- Table V-E1, row 0xE12FFF1E. -/
theorem test_step_miscellaneous : outputsAfter (block .supervisorCall 0xE12FFF1E) =
    { condValid := true, condCode := 14, classValid := true, classId := 0, subformValid := true, subformId := 2,
      subformConflict := false, errCond := false, errClass := false, errSubform := false, mnemId := 23, swiImm24 := 0,
      undefWord := 0xE12FFF1E, wordOut := 0xE12FFF1E } := by
  decide

/-- Table V-E1, rows 0xEF123456 under each policy. -/
theorem test_step_swi :
    (outputsAfter (block .supervisorCall 0xEF123456)).swiImm24 = 0x123456 ∧
    (outputsAfter (block .supervisorCall 0xEF123456)).classId = 5 ∧
    (outputsAfter (block .reject 0xEF123456)).errClass = true ∧
    (outputsAfter (block .reject 0xEF123456)).undefWord = 0xEF123456 := by
  decide

/-- Table V-E1, row 0xFE000000 under Reject, and program P4 step 5. -/
theorem test_step_errors :
    (outputsAfter (block .reject 0xFE000000)).errCond = true ∧
    (outputsAfter (block .reject 0xFE000000)).errClass = true ∧
    (outputsAfter (block .supervisorCall 0xF57FF01F)).classId = 1 ∧
    (outputsAfter (block .supervisorCall 0xF57FF01F)).errCond = true ∧
    (outputsAfter (block .supervisorCall 0xF57FF01F)).mnemId = 23 := by
  decide

/-- A refused encode input leaves the other ports driven (R305, R334). -/
theorem test_refusal_is_on_its_own_port :
    (encodeGroup { EncodeInputs.zero with condIn := 15 }).condOut = .refused .encCondIn ∧
    (encodeGroup { EncodeInputs.zero with condIn := 15 }).wordOut = .driven 0xE0000000 := by
  decide

theorem test_host_placement :
    decodeTableWord 32 0xE5D12000 = some (.ldrb .al 0b11 0 0x12000) ∧
    (outputsAfter (State.reset.withFetchWord 32 0xE5D12000)).mnemId = 18 := by
  decide

/-! ### Witnesses for the hypotheses of the statements -/

theorem witness_position_lists :
    positionsValid [4, 1, 0] = true ∧ positionsValid (descending 0 32) = true ∧ positionsValid [31] = true ∧
    positionsValid [] = false ∧ positionsValid [32] = false ∧ positionsValid [4, 4] = false ∧
    7 < 2 ^ [4, 1, 0].length := by
  decide

/-- The hypothesis of the third part of BitFieldWriteScattersBits: the value already there. -/
theorem witness_value_already_there :
    ∀ (i : Nat) (h : i < [3, 2, 1, 0].length),
      (8).testBit ([3, 2, 1, 0].length - 1 - i) = (0x12345678#32).getLsbD [3, 2, 1, 0][i] := by
  decide

theorem witness_slice_ranges : (0 < 1 ∧ 31 + 1 ≤ 32) ∧ (0 < 32 ∧ 0 + 32 ≤ 32) := by decide

theorem witness_conditions :
    (0xF0000000#32).extractLsb 31 28 = 0b1111#4 ∧ (0xE0000000#32).extractLsb 31 28 ≠ 0b1111#4 ∧
    (0x1FFFFFFF#32).extractLsb 31 28 = (0x10000000#32).extractLsb 31 28 ∧
    (0xE0000000#32).extractLsb 31 28 = (encodeCondition .al).extractLsb 3 0 := by
  decide

theorem witness_class_codes :
    (0xE0000000#32).extractLsb 27 25 = 0b000#3 ∧ (0xE2000000#32).extractLsb 27 25 = 0b001#3 ∧
    (0xE4000000#32).extractLsb 27 25 = 0b010#3 ∧ (0xE6000010#32).extractLsb 27 25 = 0b011#3 ∧
    (0xE8000000#32).extractLsb 27 25 = 0b100#3 ∧ (0xEA000000#32).extractLsb 27 25 = 0b101#3 ∧
    (0xEC000000#32).extractLsb 27 25 = 0b110#3 ∧ (0xEE000000#32).extractLsb 27 25 = 0b111#3 ∧
    (0xE8000000#32).extractLsb 27 26 = 0b10#2 ∧ (0xEC000000#32).extractLsb 27 26 = 0b11#2 ∧
    (0xE4000000#32).extractLsb 27 26 ≠ 0b00#2 ∧ (0xE0000000#32).extractLsb 27 26 = 0b00#2 := by
  decide

theorem witness_encode_class_bits :
    (24 < 25 ∧ (24 ≠ 4)) ∧ (27 < 28 ∧ 28 ≠ 4) ∧
    (4 < 25 ∧ InstructionClass.branch ≠ .loadStoreMultiple ∧ InstructionClass.branch ≠ .media) := by
  decide

theorem witness_class_round_trip : decodeClass .reject 0xE8000000 = some .branch := by decide

theorem witness_subforms :
    decodeSubform 0xE0812003 = some .dataProcessingRegister ∧ decodeSubform 0xE12FFF1E = some .miscellaneous := by
  decide

/-- For each of the four sub-forms with an exclusion, a word whose encode lands in it (43_dp_subform.md R198). -/
theorem witness_subform_exclusions :
    (0xE1000000#32).extractLsb 27 26 = 0b00#2 ∧ (0x00200000#32).extractLsb 27 26 = 0b00#2 ∧
    encodeSubform .dataProcessingRegister 0xE1000000 &&& 0x01900000 = 0x01000000 ∧
    encodeSubform .dataProcessingRegisterShifted 0xE1000000 &&& 0x01900000 = 0x01000000 ∧
    encodeSubform .dataProcessingImmediate 0xE1000000 &&& 0x01900000 = 0x01000000 ∧
    encodeSubform .extraLoadStore 0x00200000 &&& 0x01200000 = 0x00200000 := by
  decide

theorem witness_test_mnemonics :
    decodeInstruction .reject 0xE1100000 ∈ [Mnemonic.tst, .teq, .cmp, .cmn] ∧
    (0xE1000000#32).extractLsb 27 26 = 0b00#2 ∧ (0xE1000000#32).extractLsb 24 23 = 0b10#2 ∧
    (0xE1000000#32).getLsbD 20 = false ∧ Mnemonic.cmn ∈ [Mnemonic.tst, .teq, .cmp, .cmn] ∧
    Mnemonic.mvn ∈ [Mnemonic.and, .eor, .sub, .rsb, .add, .adc, .sbc, .rsc, .orr, .mov, .bic, .mvn] := by
  decide

theorem witness_opcode_rows :
    (∃ r ∈ opcodeTable, r.matchesWord .supervisorCall 0xEF000011 = true) ∧
    (∀ r ∈ opcodeTable, r.matchesWord .reject 0xEF000011 = false) := by
  decide

theorem witness_written_mask : (writtenMask .and 0).getLsbD 20 = false ∧ (writtenMask .bl 0).getLsbD 23 = false := by
  decide

theorem witness_chosen_form : dpForm 0x00000010 = .dataProcessingRegisterShifted := by decide

theorem witness_resolved_mnemonics :
    (∀ u, Mnemonic.add ≠ .undefined u) ∧ (∀ i, Mnemonic.add ≠ .swi i) ∧ (∀ u, Mnemonic.swi 0x11 ≠ .undefined u) ∧
    ∀ u, decodeInstruction .reject 0xE0812003 ≠ .undefined u := by
  refine ⟨fun _ => nofun, fun _ => nofun, fun _ => nofun, fun u => ?_⟩
  rw [show decodeInstruction .reject 0xE0812003 = .add from by decide]
  nofun

theorem witness_errors :
    (decodeGroup .supervisorCall 0xF0000000).errCond = true ∧ (decodeGroup .reject 0xEE000000).errClass = true ∧
    singleError (decodeGroup .reject 0xEE000000) = some .unrecognizedClass := by
  decide

theorem witness_encode_inputs :
    (14#4 ≠ 0b1111#4) ∧ (5#3 ≠ 6#3 ∧ 5#3 ≠ 7#3) ∧ (11#4).toNat < 12 ∧ (23#5).toNat < 24 ∧ 24 ≤ (24#5).toNat ∧
    21#5 ≠ 22 ∧ 22#5 ≠ 23 := by
  decide

theorem witness_well_formed_decodes :
    (Instr.swi .al 0b11 0x11).wf .supervisorCall = true ∧
    decode .supervisorCall 0xEF000011 = .ok (.swi .al 0b11 0x11) ∧
    decode .reject 0xE0812003 = .ok (.addRegister .al 0 0x900 0x3) := by
  decide

theorem witness_decode_bytes :
    decodeBytes .supervisorCall .littleEndian [0x03, 0x20, 0x81, 0xE0, 0xFF] =
      .ok (.addRegister .al 0 0x900 0x3, [0xFF]) ∧
    decode .supervisorCall (wordOfBytes .bigEndian 0xF0 0x00 0x00 0x00) = .error .unrecognizedCondition := by
  decide

theorem witness_step_runs_decoded :
    (Instr.addRegister .al 0 0x900 0x3).wf (block .reject 0xE0812003).params.class11xPolicy = true ∧
    decode (block .reject 0xE0812003).params.class11xPolicy (block .reject 0xE0812003).decWord =
      .ok (.addRegister .al 0 0x900 0x3) := by
  decide

/-- One state for each of the four alternatives of StepOnAnUndefinedWord. -/
theorem witness_undefined_words :
    (block .supervisorCall 0xF0812003).decWord.extractLsb 31 28 = 0b1111#4 ∧
    ((block .reject 0xEF000011).params.class11xPolicy = .reject ∧
      (block .reject 0xEF000011).decWord.extractLsb 27 26 = 0b11#2) ∧
    (block .supervisorCall 0xE7912003).decWord.extractLsb 27 25 = 0b011#3 ∧
    decodeSubform (block .supervisorCall 0xE3001234).decWord = some .movImmediate16 := by
  decide

theorem witness_policies :
    (block .supervisorCall 0).params.class11xPolicy = .supervisorCall ∧
    (block .reject 0).params.class11xPolicy = .reject := by
  decide

theorem witness_exec_goes_on : ∃ t, exec (.ldr .al 0b11 0 0x12000) State.reset = .next t := ⟨_, rfl⟩

theorem witness_step_goes_on_from_a_lawful_state : PortsLawful State.reset ∧ ∃ t, step State.reset = .next t :=
  ⟨by decide, ⟨_, rfl⟩⟩

/-- Two states that agree in what each group reads and differ in the rest. -/
theorem witness_own_inputs :
    (∃ t, step (block .supervisorCall 0xE0812003) = .next t) ∧
    (∃ t, step ((block .supervisorCall 0xE0812003).driveEncode { EncodeInputs.zero with mnemIn := 31 }) = .next t) ∧
    (block .supervisorCall 0xE0812003).encIn = (block .reject 0xEF000011).encIn ∧
    ∃ t, step (block .reject 0xEF000011) = .next t :=
  ⟨⟨_, rfl⟩, ⟨_, rfl⟩, rfl, ⟨_, rfl⟩⟩

theorem witness_unread_bits :
    (0xE0812003#32).extractLsb 31 20 = (0xE08FFF0C#32).extractLsb 31 20 ∧
    (0xE0812003#32).extractLsb 7 4 = (0xE08FFF0C#32).extractLsb 7 4 := by
  decide

end Sys2Proof.Tests
end

/-! ## The decoder of a whole word inverts the encoder (spec/30_encoding.md R63, R65)

Three layers: the conditions and the class field; for each layout, the word rebuilt from its own fields; for each
branch of `decode`, the word its instruction encodes to. -/

namespace Sys2Proof.Decoding

open Sys2Proof.Machine

/-- The code table of R120 and its reading are inverse. -/
theorem conditionOfCode_eq_some {k : BitVec 4} {c : Condition} :
    conditionOfCode k = some c ↔ conditionCode c = k := by
  constructor
  · intro h
    unfold conditionOfCode at h
    split at h <;> cases h <;> rfl
  · rintro rfl
    cases c <;> rfl

/-- Bits 27:25 are the class gate 27:26 above bit 25. -/
theorem classGate_append_dpOp (w : Word) : classGate w ++ dpOp w = classOp w :=
  BitVec.extractLsb'_append_extractLsb'_eq_extractLsb' rfl

/-! ### A word is the layout of its own fields -/

theorem registerWord_of_fields {c : Condition} {w : Word} (hc : conditionCode c = condField w)
    (hop : classOp w = 0b000#3) (h4 : classOp1 w = 0b0#1) :
    registerWord c (dpOpcode w) (bit20 w) (w.extractLsb' 5 15) (w.extractLsb' 0 4) = w := by
  rw [registerWord, hc, ← hop, ← h4]
  simp only [condField, classOp, dpOpcode, bit20, classOp1,
    BitVec.extractLsb'_append_extractLsb'_eq_extractLsb']
  exact BitVec.extractLsb'_eq_self

theorem registerShiftedWord_of_fields {c : Condition} {w : Word} (hc : conditionCode c = condField w)
    (hop : classOp w = 0b000#3) (h7 : w.extractLsb' 7 1 = 0b0#1) (h4 : classOp1 w = 0b1#1) :
    registerShiftedWord c (dpOpcode w) (bit20 w) (w.extractLsb' 8 12) (w.extractLsb' 5 2) (w.extractLsb' 0 4) = w := by
  rw [registerShiftedWord, hc, ← hop, ← h7, ← h4]
  simp only [condField, classOp, dpOpcode, bit20, classOp1,
    BitVec.extractLsb'_append_extractLsb'_eq_extractLsb']
  exact BitVec.extractLsb'_eq_self

theorem immediateWord_of_fields {c : Condition} {w : Word} (hc : conditionCode c = condField w)
    (hop : classOp w = 0b001#3) :
    immediateWord c (dpOpcode w) (bit20 w) (w.extractLsb' 0 20) = w := by
  rw [immediateWord, hc, ← hop]
  simp only [condField, classOp, dpOpcode, bit20, BitVec.extractLsb'_append_extractLsb'_eq_extractLsb']
  exact BitVec.extractLsb'_eq_self

theorem loadStoreWord_of_fields {c : Condition} {w : Word} (hc : conditionCode c = condField w)
    (hop : classOp w = 0b010#3) :
    loadStoreWord c (bit20 w) (bit22 w) (w.extractLsb' 23 2) (w.extractLsb' 21 1) (w.extractLsb' 0 20) = w := by
  rw [loadStoreWord, hc, ← hop]
  simp only [condField, classOp, bit20, bit22, BitVec.extractLsb'_append_extractLsb'_eq_extractLsb']
  exact BitVec.extractLsb'_eq_self

theorem branchWord_of_fields {c : Condition} {w : Word} (hc : conditionCode c = condField w)
    (hg : classGate w = 0b10#2) : branchWord c (dpOp w) (bit24 w) (imm24 w) = w := by
  rw [branchWord, hc, ← hg]
  simp only [condField, classGate, dpOp, bit24, imm24, BitVec.extractLsb'_append_extractLsb'_eq_extractLsb']
  exact BitVec.extractLsb'_eq_self

theorem swiWord_of_fields {c : Condition} {w : Word} (hc : conditionCode c = condField w)
    (hg : classGate w = 0b11#2) : swiWord c (w.extractLsb' 24 2) (imm24 w) = w := by
  rw [swiWord, hc, ← hg]
  simp only [condField, classGate, imm24, BitVec.extractLsb'_append_extractLsb'_eq_extractLsb']
  exact BitVec.extractLsb'_eq_self

/-! ### The row an opcode selects encodes to its format

A test row has no S operand, so the rows need S = 1 with a test opcode (R222). -/

theorem encode_registerInstr {c : Condition} {k : BitVec 4} {f : BitVec 1} {hi : BitVec 15} {lo : BitVec 4}
    (h : isTestOpcode k = true → f = 1#1) : encode (registerInstr c k f hi lo) = registerWord c k f hi lo := by
  unfold registerInstr
  split
  case h_9 | h_10 | h_11 | h_12 => rw [h rfl, encode]
  case h_16 =>
    have : k = 0b1111#4 := by simp only [imp_false] at *; bv_omega
    rw [this, encode]
  all_goals rfl

theorem encode_registerShiftedInstr {c : Condition} {k : BitVec 4} {f : BitVec 1} {hi : BitVec 12} {mid : BitVec 2}
    {lo : BitVec 4} (h : isTestOpcode k = true → f = 1#1) :
    encode (registerShiftedInstr c k f hi mid lo) = registerShiftedWord c k f hi mid lo := by
  unfold registerShiftedInstr
  split
  case h_9 | h_10 | h_11 | h_12 => rw [h rfl, encode]
  case h_16 =>
    have : k = 0b1111#4 := by simp only [imp_false] at *; bv_omega
    rw [this, encode]
  all_goals rfl

theorem encode_immediateInstr {c : Condition} {k : BitVec 4} {f : BitVec 1} {lo : BitVec 20}
    (h : isTestOpcode k = true → f = 1#1) : encode (immediateInstr c k f lo) = immediateWord c k f lo := by
  unfold immediateInstr
  split
  case h_9 | h_10 | h_11 | h_12 => rw [h rfl, encode]
  case h_16 =>
    have : k = 0b1111#4 := by simp only [imp_false] at *; bv_omega
    rw [this, encode]
  all_goals rfl

/-- The L and B bits choose the LoadStore row, which writes them back (R224). -/
theorem encode_decodeLoadStore (c : Condition) (w : Word) :
    encode (decodeLoadStore c w) =
      loadStoreWord c (bit20 w) (bit22 w) (w.extractLsb' 23 2) (w.extractLsb' 21 1) (w.extractLsb' 0 20) := by
  unfold decodeLoadStore
  rcases BitVec.eq_zero_or_eq_one (bit22 w) with hb | hb <;>
    rcases BitVec.eq_zero_or_eq_one (bit20 w) with hl | hl <;>
    simp [hb, hl, encode]

/-- The link bit chooses the Branch row, which writes it back (R225). -/
theorem encode_decodeBranch (c : Condition) (w : Word) :
    encode (decodeBranch c w) = branchWord c (dpOp w) (bit24 w) (imm24 w) := by
  unfold decodeBranch
  rcases BitVec.eq_zero_or_eq_one (bit24 w) with h | h <;> simp [h, encode]

/-! ### The branches of the decoder -/

/-- What the DataProcessing branch answers, with the fields that lead there (R182, R183, R190, R222). -/
inductive DataProcessingCase (c : Condition) (w : Word) : Except DecodeReject Instr → Prop
  | immediate (hS : isTestOpcode (dpOpcode w) = true → bit20 w = 1#1) (hop : dpOp w = 1#1) :
      DataProcessingCase c w (.ok (immediateInstr c (dpOpcode w) (bit20 w) (w.extractLsb' 0 20)))
  | register (hS : isTestOpcode (dpOpcode w) = true → bit20 w = 1#1) (hop : dpOp w = 0#1) (h4 : classOp1 w = 0#1) :
      DataProcessingCase c w
        (.ok (registerInstr c (dpOpcode w) (bit20 w) (w.extractLsb' 5 15) (w.extractLsb' 0 4)))
  | registerShifted (hS : isTestOpcode (dpOpcode w) = true → bit20 w = 1#1) (hop : dpOp w = 0#1)
      (h4 : classOp1 w = 1#1) (h7 : w.extractLsb' 7 1 = 0#1) :
      DataProcessingCase c w
        (.ok (registerShiftedInstr c (dpOpcode w) (bit20 w) (w.extractLsb' 8 12) (w.extractLsb' 5 2)
          (w.extractLsb' 0 4)))
  | testWithoutS (ht : isTestOpcode (dpOpcode w) = true) (hS : bit20 w = 0#1) :
      DataProcessingCase c w (.error .unresolvedSubform)
  | bit7 (hop : dpOp w = 0#1) (h4 : classOp1 w = 1#1) (h7 : w.extractLsb' 7 1 = 1#1) :
      DataProcessingCase c w (.error .unresolvedSubform)

theorem decodeDataProcessing_case (c : Condition) (w : Word) :
    DataProcessingCase c w (decodeDataProcessing c w) := by
  unfold decodeDataProcessing
  split
  case isTrue h =>
    obtain ⟨ht, hS⟩ : isTestOpcode (dpOpcode w) = true ∧ bit20 w = 0#1 := by simpa using h
    exact .testWithoutS ht hS
  case isFalse h =>
    have hS (ht : isTestOpcode (dpOpcode w) = true) : bit20 w = 1#1 :=
      (BitVec.eq_zero_or_eq_one _).resolve_left fun h0 => h (by simp [ht, h0])
    rcases BitVec.eq_zero_or_eq_one (dpOp w) with hop | hop
    · rcases BitVec.eq_zero_or_eq_one (classOp1 w) with h4 | h4
      · simpa [hop, h4] using DataProcessingCase.register hS hop h4
      · rcases BitVec.eq_zero_or_eq_one (w.extractLsb' 7 1) with h7 | h7
        · simpa [hop, h4, h7] using DataProcessingCase.registerShifted hS hop h4 h7
        · simpa [hop, h4, h7] using DataProcessingCase.bit7 hop h4 h7
    · simpa [hop] using DataProcessingCase.immediate hS hop

/-- What the decoder answers for a word, with the fields that lead there: a rejection by name (R227), or an
instruction of the class the gate selects. -/
inductive DecodeCase (p : Class11xPolicy) (w : Word) : Except DecodeReject Instr → Prop
  | unrecognizedCondition (hc : decodeCondition w = none) : DecodeCase p w (.error .unrecognizedCondition)
  | dataProcessing {c : Condition} {r : Except DecodeReject Instr} (hc : conditionCode c = condField w)
      (hg : classGate w = 0b00#2) (hr : DataProcessingCase c w r) : DecodeCase p w r
  | loadStore {c : Condition} (hc : conditionCode c = condField w) (hg : classGate w = 0b01#2)
      (hop : dpOp w = 0#1) : DecodeCase p w (.ok (decodeLoadStore c w))
  | loadStoreMultiple (hg : classGate w = 0b01#2) (hop : dpOp w = 1#1) (h4 : classOp1 w = 0#1) :
      DecodeCase p w (.error .loadStoreMultiple)
  | media (hg : classGate w = 0b01#2) (hop : dpOp w = 1#1) (h4 : classOp1 w = 1#1) :
      DecodeCase p w (.error .media)
  | branch {c : Condition} (hc : conditionCode c = condField w) (hg : classGate w = 0b10#2) :
      DecodeCase p w (.ok (decodeBranch c w))
  | swi {c : Condition} (hc : conditionCode c = condField w) (hg : classGate w = 0b11#2)
      (hp : p = .supervisorCall) : DecodeCase p w (.ok (.swi c (w.extractLsb' 24 2) (imm24 w)))
  | unrecognizedClass (hg : classGate w = 0b11#2) (hp : p = .reject) :
      DecodeCase p w (.error .unrecognizedClass)

theorem decode_case (p : Class11xPolicy) (w : Word) : DecodeCase p w (decode p w) := by
  unfold decode
  split
  case h_1 hc => exact .unrecognizedCondition hc
  case h_2 c hc =>
    have hc := conditionOfCode_eq_some.mp hc
    split
    case h_1 hg => exact .dataProcessing hc hg (decodeDataProcessing_case c w)
    case h_2 hg =>
      rcases BitVec.eq_zero_or_eq_one (dpOp w) with hop | hop
      · simpa [hop] using DecodeCase.loadStore hc hg hop
      · rcases BitVec.eq_zero_or_eq_one (classOp1 w) with h4 | h4
        · simpa [hop, h4] using DecodeCase.loadStoreMultiple hg hop h4
        · simpa [hop, h4] using DecodeCase.media hg hop h4
    case h_3 hg => exact .branch hc hg
    case h_4 h0 h1 h2 =>
      have hg : classGate w = 0b11#2 := by simp only [imp_false] at h0 h1 h2; bv_omega
      cases p with
      | supervisorCall => exact .swi hc hg rfl
      | reject => exact .unrecognizedClass hg rfl

theorem encode_of_dataProcessingCase {c : Condition} {w : Word} {i : Instr} (hc : conditionCode c = condField w)
    (hg : classGate w = 0b00#2) (h : DataProcessingCase c w (.ok i)) : encode i = w := by
  have hclass : classOp w = 0b00#2 ++ dpOp w := hg ▸ (classGate_append_dpOp w).symm
  cases h with
  | immediate hS hop => rw [encode_immediateInstr hS, immediateWord_of_fields hc (by rw [hclass, hop]; rfl)]
  | register hS hop h4 => rw [encode_registerInstr hS, registerWord_of_fields hc (by rw [hclass, hop]; rfl) h4]
  | registerShifted hS hop h4 h7 =>
    rw [encode_registerShiftedInstr hS, registerShiftedWord_of_fields hc (by rw [hclass, hop]; rfl) h7 h4]

/-- Every bit of a word that decodes is carried by its instruction (R65). -/
theorem encode_of_decode {p : Class11xPolicy} {w : Word} {i : Instr} (h : decode p w = .ok i) : encode i = w := by
  have hcase := decode_case p w
  rw [h] at hcase
  cases hcase with
  | dataProcessing hc hg hr => exact encode_of_dataProcessingCase hc hg hr
  | loadStore hc hg hop =>
    have hclass : classOp w = 0b010#3 := by rw [← classGate_append_dpOp, hg, hop]; rfl
    rw [encode_decodeLoadStore, loadStoreWord_of_fields hc hclass]
  | branch hc hg => rw [encode_decodeBranch, branchWord_of_fields hc hg]
  | swi hc hg => rw [encode, swiWord_of_fields hc hg]

/-- A word is never rejected as truncated: that name is for runs of fewer than four bytes. -/
theorem decode_ne_truncated (p : Class11xPolicy) (w : Word) : decode p w ≠ .error .truncated := by
  intro h
  have hcase := decode_case p w
  rw [h] at hcase
  cases hcase with
  | dataProcessing _ _ hr => cases hr

end Sys2Proof.Decoding

/-! ## The scope of the block (spec/00_scope.md): a fetch of four bytes (R7), and the ports at power-up (R6) -/

namespace Sys2Proof.Scope

open Sys2Proof.Machine Sys2Proof.Decoding

/-! ### The decoder over bytes -/

/-- A run of four or more bytes is decoded as its first word. -/
theorem decodeBytes_word (p : Class11xPolicy) (o : FetchByteOrder) (b0 b1 b2 b3 : Byte) (rest : List Byte) :
    decodeBytes p o (b0 :: b1 :: b2 :: b3 :: rest) =
      (decode p (wordOfBytes o b0 b1 b2 b3)).map fun i => (i, rest) := by
  rw [decodeBytes]
  cases decode p (wordOfBytes o b0 b1 b2 b3) <;> rfl

/-- A run of bytes is shorter than a word, and truncated, or starts with a word. -/
theorem decodeBytes_short_or_word (p : Class11xPolicy) (o : FetchByteOrder) (bs : List Byte) :
    bs.length < 4 ∧ decodeBytes p o bs = .error .truncated ∨
    ∃ b0 b1 b2 b3 rest, bs = b0 :: b1 :: b2 :: b3 :: rest := by
  match bs with
  | [] | [_] | [_, _] | [_, _, _] => exact .inl ⟨by simp, rfl⟩
  | b0 :: b1 :: b2 :: b3 :: rest => exact .inr ⟨b0, b1, b2, b3, rest, rfl⟩

/-- A decoded run is one word, which its instruction encodes to, and the rest. -/
theorem decodeBytes_eq_ok {p : Class11xPolicy} {o : FetchByteOrder} {bs rest : List Byte} {i : Instr}
    (h : decodeBytes p o bs = .ok (i, rest)) :
    ∃ b0 b1 b2 b3, bs = b0 :: b1 :: b2 :: b3 :: rest ∧ decode p (wordOfBytes o b0 b1 b2 b3) = .ok i ∧
      encode i = wordOfBytes o b0 b1 b2 b3 := by
  rcases decodeBytes_short_or_word p o bs with ⟨_, ht⟩ | ⟨b0, b1, b2, b3, tail, rfl⟩
  · rw [ht] at h
    cases h
  · rw [decodeBytes_word] at h
    cases hd : decode p (wordOfBytes o b0 b1 b2 b3) with
    | error r => rw [hd] at h; cases h
    | ok j =>
      rw [hd] at h
      cases h
      exact ⟨b0, b1, b2, b3, rfl, hd, encode_of_decode hd⟩

theorem decodeBytes_eq_truncated (p : Class11xPolicy) (o : FetchByteOrder) (bs : List Byte) :
    decodeBytes p o bs = .error .truncated ↔ bs.length < 4 := by
  rcases decodeBytes_short_or_word p o bs with ⟨hlen, ht⟩ | ⟨b0, b1, b2, b3, rest, rfl⟩
  · exact ⟨fun _ => hlen, fun _ => ht⟩
  · constructor
    · intro h
      rw [decodeBytes_word] at h
      cases hd : decode p (wordOfBytes o b0 b1 b2 b3) with
      | ok i => rw [hd] at h; cases h
      | error r =>
        rw [hd] at h
        cases h
        exact absurd hd (decode_ne_truncated p _)
    · intro h
      simp only [List.length_cons] at h
      omega

/-- Where each of four concatenated bytes lies; the two byte orders are the two ways to concatenate them. -/
theorem extractLsb_append_bytes (b3 b2 b1 b0 : Byte) :
    (b3 ++ b2 ++ b1 ++ b0).extractLsb 7 0 = b0 ∧ (b3 ++ b2 ++ b1 ++ b0).extractLsb 15 8 = b1 ∧
    (b3 ++ b2 ++ b1 ++ b0).extractLsb 23 16 = b2 ∧ (b3 ++ b2 ++ b1 ++ b0).extractLsb 31 24 = b3 := by
  unfold BitVec.extractLsb
  refine ⟨?_, ?_, ?_, ?_⟩
  · rw [extractLsb'_append_low (h := by decide)]
    exact BitVec.extractLsb'_eq_self
  · rw [extractLsb'_append_high (h := by decide), extractLsb'_append_low (h := by decide)]
    exact BitVec.extractLsb'_eq_self
  · rw [extractLsb'_append_high (h := by decide), extractLsb'_append_high (h := by decide),
      extractLsb'_append_low (h := by decide)]
    exact BitVec.extractLsb'_eq_self
  · rw [extractLsb'_append_high (h := by decide), extractLsb'_append_high (h := by decide),
      extractLsb'_append_high (h := by decide)]
    exact BitVec.extractLsb'_eq_self

/-- Settles O42: a run is shorter than a word or starts with one, and the word's decoder gives the rest. -/
theorem decodeBytesConsumesOneWord : Obligations.DecodeBytesConsumesOneWord := by
  unfold Obligations.DecodeBytesConsumesOneWord
  refine ⟨fun p o bs => ⟨fun i rest h => decodeBytes_eq_ok h, ?_, decodeBytes_eq_truncated p o bs⟩,
    fun b0 b1 b2 b3 => ?_, fun s b0 b1 b2 b3 => rfl⟩
  · rintro b0 b1 b2 b3 rest r rfl hr
    rw [decodeBytes_word, hr]
    rfl
  · obtain ⟨hl0, hl1, hl2, hl3⟩ := extractLsb_append_bytes b3 b2 b1 b0
    obtain ⟨hb3, hb2, hb1, hb0⟩ := extractLsb_append_bytes b0 b1 b2 b3
    exact ⟨hl0, hl1, hl2, hl3, hb0, hb1, hb2, hb3⟩

/-! ### Power-up -/

/-- The outputs written in `State.reset` are those of the inputs written there (R33, table V-E1). -/
theorem settled_reset : Settled State.reset :=
  ⟨by decide, by decide⟩

/-- The word 0 resolves: no output of it is driven to zero for want of a match, and no error is raised. -/
theorem portsLawful_reset : PortsLawful State.reset :=
  ⟨by decide, by decide, by decide⟩

/-- Settles O58, by evaluating the ports of the one state. -/
theorem resetIsSettledAndLawful : Obligations.ResetIsSettledAndLawful :=
  ⟨rfl, settled_reset, portsLawful_reset⟩

end Sys2Proof.Scope

/-! ## The identifiers on the ports (spec/10_state.md section 2, R29; spec/41_condition.md, R120)

Each enumeration is read back from its identifier, and its identifiers end where R29's table ends. -/

namespace Sys2Proof.Identifiers

open Sys2Proof.Machine Sys2Proof.Decoding

@[simp] theorem conditionOfCode_conditionCode (c : Condition) : conditionOfCode (conditionCode c) = some c :=
  conditionOfCode_eq_some.mpr rfl

@[simp] theorem classOfId_classId (k : InstructionClass) : classOfId (classId k) = some k := by
  cases k <;> rfl

@[simp] theorem formOfId_formId (f : DataProcessingForm) : formOfId (formId f) = some f := by
  cases f <;> rfl

/-- The two payload ports carry what `Swi` and `Undefined` need to be read back (R220, R256). -/
@[simp] theorem mnemonicOfPort_mnemonicId (m : Mnemonic) :
    mnemonicOfPort (mnemonicId m) (mnemonicImm24 m) (mnemonicWord m) = some m := by
  cases m <;> rfl

theorem formOfId_eq_none {k : BitVec 4} (hk : 12 ≤ k.toNat) : formOfId k = none := by
  unfold formOfId
  split
  case h_13 => rfl
  all_goals exact absurd hk (by decide)

theorem mnemonicOfPort_eq_none {k : BitVec 5} (imm : BitVec 24) (u : Word) (hk : 24 ≤ k.toNat) :
    mnemonicOfPort k imm u = none := by
  unfold mnemonicOfPort
  split
  case h_25 => rfl
  all_goals exact absurd hk (by decide)

/-! ### The range of the identifiers -/

/-- The reserved code is the identifier of no condition (R123). -/
theorem conditionCode_ne_reserved (c : Condition) : conditionCode c ≠ 15 := by
  intro h
  have hc := conditionOfCode_conditionCode c
  rw [h] at hc
  cases hc

theorem classId_le (k : InstructionClass) : (classId k).toNat ≤ 5 := by
  cases k <;> decide

/-- An identifier of 12 or more would name no sub-form back. -/
theorem formId_le (f : DataProcessingForm) : (formId f).toNat ≤ 11 := by
  by_contra h
  have hf := formOfId_eq_none (Nat.lt_of_not_le h)
  rw [formOfId_formId] at hf
  cases hf

/-- An identifier of 24 or more would name no mnemonic back. -/
theorem mnemonicId_le (m : Mnemonic) : (mnemonicId m).toNat ≤ 23 := by
  by_contra h
  have hm := mnemonicOfPort_eq_none (mnemonicImm24 m) (mnemonicWord m) (Nat.lt_of_not_le h)
  rw [mnemonicOfPort_mnemonicId] at hm
  cases hm

/-- Settles O8: the tables are evaluated, the values are read back, and the identifiers left over name none. -/
theorem enumerationIdentifiers : Obligations.EnumerationIdentifiers := by
  unfold Obligations.EnumerationIdentifiers
  exact ⟨rfl, conditionOfCode_conditionCode, rfl, rfl, classOfId_classId, rfl, rfl, rfl, formOfId_formId,
    fun _ => formOfId_eq_none, fun _ _ => rfl, mnemonicOfPort_mnemonicId, fun _ => mnemonicOfPort_eq_none⟩

end Sys2Proof.Identifiers

/-! ## What a step leaves on the decode outputs (spec/10_state.md section 3)

Three layers: the disambiguator finds exactly one sub-form in a word of the gate; the decode outputs driven for a
word are lawful; every instruction, and so every step, drives its decode outputs in that way. -/

namespace Sys2Proof.Ports

open Sys2Proof.Machine Sys2Proof.Identifiers

/-! ### One sub-form per key (R196) -/

/-- With bit 25 clear the 512 keys of `dpOp1` and `dpOp2` each meet one of the first eight predicates. -/
theorem length_formsOfKey_register (op1 : BitVec 5) (op2 : BitVec 4) : (formsOfKey 0#1 op1 op2).length = 1 := by
  revert op1 op2
  decide

/-- With bit 25 set `dpOp2` is not read, and the 32 values of `dpOp1` each meet one of the last four predicates. -/
theorem length_formsOfKey_immediate (op1 : BitVec 5) (op2 : BitVec 4) : (formsOfKey 1#1 op1 op2).length = 1 := by
  change (formsOfKey 1#1 op1 0#4).length = 1
  revert op1
  decide

theorem length_formsOfKey (op : BitVec 1) (op1 : BitVec 5) (op2 : BitVec 4) :
    (formsOfKey op op1 op2).length = 1 := by
  rcases BitVec.eq_zero_or_eq_one op with rfl | rfl
  · exact length_formsOfKey_register op1 op2
  · exact length_formsOfKey_immediate op1 op2

theorem length_matchingForms (w : Word) : (matchingForms w).length = if classGate w = 0b00#2 then 1 else 0 := by
  unfold matchingForms
  split
  · exact length_formsOfKey _ _ _
  · rfl

/-- No two predicates meet (R195, R196). -/
@[simp] theorem subformConflict_eq_false (w : Word) : subformConflict w = false := by
  have h := length_matchingForms w
  rw [subformConflict, decide_eq_false_iff_not]
  split at h <;> omega

/-- The disambiguator finds a sub-form in every word of the gate (R200) and in no other (R181). -/
theorem isSome_decodeSubform (w : Word) : (decodeSubform w).isSome = true ↔ classGate w = 0b00#2 := by
  have h := length_matchingForms w
  rw [decodeSubform, List.isSome_head?, ← List.length_pos_iff]
  split at h <;> simp [*]

/-! ### Lawful outputs -/

/-- A payload port is zero unless the mnemonic is the one that carries it (R31, R255). -/
theorem mnemonicImm24_eq_zero {m : Mnemonic} (h : mnemonicId m ≠ 22) : mnemonicImm24 m = 0 := by
  cases m with
  | swi imm => exact absurd rfl h
  | _ => rfl

theorem mnemonicWord_eq_zero {m : Mnemonic} (h : mnemonicId m ≠ 23) : mnemonicWord m = 0 := by
  cases m with
  | undefined w => exact absurd rfl h
  | _ => rfl

section
variable (w : Word) (c : Option Condition) (k : Option InstructionClass) (f : Option DataProcessingForm) (m : Mnemonic)

/-- A stage that found nothing drives its identifier to zero (R31). -/
theorem zeroDriven_drivenOutputs : ZeroDriven (drivenOutputs w c k f m) := by
  refine ⟨fun h => ?_, fun h => ?_, fun h => ?_, mnemonicImm24_eq_zero, mnemonicWord_eq_zero⟩
  · obtain rfl : c = none := by simpa using h
    rfl
  · obtain rfl : k = none := by simpa using h
    rfl
  · obtain rfl : f = none := by simpa using h
    rfl

/-- Every identifier is that of a value found, or the zero of a stage that found none (R29, R305). -/
theorem idsNamed_drivenOutputs : IdsNamed (drivenOutputs w c k f m) := by
  refine ⟨?_, ?_, ?_, mnemonicId_le m⟩
  · cases c with
    | none => simp
    | some c => exact conditionCode_ne_reserved c
  · cases k with
    | none => simp
    | some k => exact classId_le k
  · cases f with
    | none => simp
    | some f => exact formId_le f

variable {w f}

/-- The error outputs agree with the valid outputs, once a word of the gate is given a sub-form (R200, R303). -/
theorem errorsAgree_drivenOutputs (hf : classGate w = 0b00#2 → f.isSome = true) :
    ErrorsAgree (drivenOutputs w c k f m) := by
  refine ⟨rfl, rfl, ?_, subformConflict_eq_false w⟩
  by_cases hg : classGate w = 0b00#2
  · simp [hf hg]
  · simp [hg]

theorem portsLawful_settle (s : State) (hf : classGate w = 0b00#2 → f.isSome = true) :
    PortsLawful (s.settle (drivenOutputs w c k f m)) :=
  ⟨zeroDriven_drivenOutputs w c k f m, idsNamed_drivenOutputs w c k f m, errorsAgree_drivenOutputs c k m hf⟩

end

/-! ### What an instruction reports -/

/-- The class of an instruction's row (R151, R230 to R252). -/
def instrClass : Instr → InstructionClass
  | .ldr .. | .str .. | .ldrb .. | .strb .. => .loadStore
  | .b .. | .bl .. => .branch
  | .swi .. => .supervisorCall
  | _ => .dataProcessing

/-- The sub-form of an instruction's row (R182, R183, R190); the rows outside DataProcessing have none. -/
def instrForm : Instr → Option DataProcessingForm
  | .andRegister .. | .eorRegister .. | .subRegister .. | .rsbRegister .. | .addRegister .. | .adcRegister ..
  | .sbcRegister .. | .rscRegister .. | .tstRegister .. | .teqRegister .. | .cmpRegister .. | .cmnRegister ..
  | .orrRegister .. | .movRegister .. | .bicRegister .. | .mvnRegister .. => some .dataProcessingRegister
  | .andRegisterShifted .. | .eorRegisterShifted .. | .subRegisterShifted .. | .rsbRegisterShifted ..
  | .addRegisterShifted .. | .adcRegisterShifted .. | .sbcRegisterShifted .. | .rscRegisterShifted ..
  | .tstRegisterShifted .. | .teqRegisterShifted .. | .cmpRegisterShifted .. | .cmnRegisterShifted ..
  | .orrRegisterShifted .. | .movRegisterShifted .. | .bicRegisterShifted ..
  | .mvnRegisterShifted .. => some .dataProcessingRegisterShifted
  | .ldr .. | .str .. | .ldrb .. | .strb .. | .b .. | .bl .. | .swi .. => none
  | _ => some .dataProcessingImmediate

/-- Only a row outside the class gate has no sub-form. -/
theorem isSome_instrForm {i : Instr} (h : classGate (encode i) = 0b00#2) : (instrForm i).isSome = true := by
  cases i
  case ldr | str | ldrb | strb | b | bl | swi => simp [encode] at h
  all_goals rfl

/-- A well-formed instruction reports its own condition, class, sub-form, mnemonic and word (R230 to R252). -/
theorem exec_of_wf {i : Instr} {s : State} (h : i.wf s.params.class11xPolicy = true) :
    exec i s = s.resolve (instrCondition i) (instrClass i) (instrForm i) (instrMnemonic i) (encode i) := by
  cases i with
  | swi c hi imm =>
    have hp : s.params.class11xPolicy = .supervisorCall := by simpa [Instr.wf] using h
    simp only [exec, execSwi, hp]
    rfl
  | _ => rfl

/-- An ill-formed instruction, a Swi under Reject, is reported as its word's `Undefined` (log 11). -/
theorem exec_of_not_wf {i : Instr} {s : State} (h : i.wf s.params.class11xPolicy = false) :
    exec i s = execUndefined (encode i) s := by
  cases i with
  | swi c hi imm =>
    have hp : s.params.class11xPolicy = .reject := by
      cases hp : s.params.class11xPolicy with
      | supervisorCall => rw [hp] at h; cases h
      | reject => rfl
    simp only [exec, execSwi, hp]
    rfl
  | _ => cases h

/-! ### Every step makes its decode outputs lawful -/

theorem execUndefined_portsLawful {w : Word} {s t : State} (h : execUndefined w s = .next t) : PortsLawful t := by
  rw [execUndefined_eq_next.mp h]
  exact portsLawful_settle _ _ _ s (isSome_decodeSubform w).mpr

theorem exec_portsLawful {i : Instr} {s t : State} (h : exec i s = .next t) : PortsLawful t := by
  cases hwf : i.wf s.params.class11xPolicy with
  | true =>
    rw [exec_of_wf hwf] at h
    rw [resolve_eq_next.mp h]
    exact portsLawful_settle _ _ _ s isSome_instrForm
  | false =>
    rw [exec_of_not_wf hwf] at h
    exact execUndefined_portsLawful h

/-- Whatever the outputs were before: the block holds nothing from before the step (R27, R336). -/
theorem step_portsLawful {s t : State} (h : step s = .next t) : PortsLawful t := by
  unfold step at h
  split at h
  · exact exec_portsLawful h
  · exact execUndefined_portsLawful h

/-- Settles O57: lawful outputs follow a step from any state, so from a lawful one too. -/
theorem lawfulPortsAreKeptByEveryStep : Obligations.LawfulPortsAreKeptByEveryStep :=
  ⟨fun _ _ _ => step_portsLawful, fun _ _ => step_portsLawful⟩

end Sys2Proof.Ports

/-! ## The opcode table and the decode tree (spec/30_encoding.md section 4, R67)

Four layers: a row reads the condition, the class field and the sub-form key; the 55 rows are four families, one for
each class that has mnemonics; a row of a family matches the words of its class with its fields; the tree answers the
family's mnemonic on those words, and `Undefined` on every other word. -/

namespace Sys2Proof.Table

open Sys2Proof.Machine Sys2Proof.Decoding Sys2Proof.Ports

/-! ### A row reads the condition, the class field and the key -/

theorem eq_iff_slices (a b : Word) : a = b ↔
    (condField a = condField b ∧ a.extractLsb' 8 12 = b.extractLsb' 8 12 ∧
        a.extractLsb' 0 4 = b.extractLsb' 0 4) ∧
      classOp a = classOp b ∧ dpOp1 a = dpOp1 b ∧ dpOp2 a = dpOp2 b := by
  have join (x : Word) :
      condField x ++ classOp x ++ dpOp1 x ++ x.extractLsb' 8 12 ++ dpOp2 x ++ x.extractLsb' 0 4 = x := by
    simp only [condField, classOp, dpOp1, dpOp2, BitVec.extractLsb'_append_extractLsb'_eq_extractLsb']
    exact BitVec.extractLsb'_eq_self
  constructor
  · rintro rfl
    simp only [and_self]
  · rintro ⟨⟨hcond, hmid, hlow⟩, hop, hop1, hop2⟩
    rw [← join a, ← join b, hcond, hmid, hlow, hop, hop1, hop2]

/-- A word with no bit outside the class field and the key, which lie in bits 27:20 and 7:4. -/
abbrev InKey (x : Word) : Prop := condField x = 0 ∧ x.extractLsb' 8 12 = 0 ∧ x.extractLsb' 0 4 = 0

theorem and_eq_iff_hits {m v : Word} (hm : InKey m) (hv : InKey v) (w : Word) : w &&& m = v ↔
    hits (classOp w) (classOp m) (classOp v) = true ∧ hits (dpOp1 w) (dpOp1 m) (dpOp1 v) = true ∧
      hits (dpOp2 w) (dpOp2 m) (dpOp2 v) = true := by
  obtain ⟨hmcond, hmmid, hmlow⟩ := hm
  obtain ⟨hvcond, hvmid, hvlow⟩ := hv
  rw [eq_iff_slices]
  simp only [condField, classOp, dpOp1, dpOp2, BitVec.extractLsb'_and, hits, beq_iff_eq] at *
  simp [*]

/-- The condition exclusion of the rows is condition 1111, the one that is not recognized (R121). -/
theorem and_cond_ne_iff (w : Word) : w &&& 0xF0000000 ≠ 0xF0000000 ↔ (decodeCondition w).isSome = true := by
  have hcode : ∀ k : BitVec 4, k &&& 15#4 ≠ 15#4 ↔ (conditionOfCode k).isSome = true := by decide
  rw [decodeCondition, ← hcode, Ne, eq_iff_slices]
  simp [condField, classOp, dpOp1, dpOp2, BitVec.extractLsb'_and]

theorem inKey_of_mem : ∀ r ∈ opcodeTable, InKey r.mask ∧ InKey r.value := by decide

/-- A row on the class field and the key of a word. -/
def matchesKey (r : OpcodeRow) (op : BitVec 3) (op1 : BitVec 5) (op2 : BitVec 4) : Prop :=
  hits op (classOp r.mask) (classOp r.value) = true ∧ hits op1 (dpOp1 r.mask) (dpOp1 r.value) = true ∧
    hits op2 (dpOp2 r.mask) (dpOp2 r.value) = true

theorem matchesWord_iff {r : OpcodeRow} (hr : r ∈ opcodeTable) (p : Class11xPolicy) (w : Word) :
    r.matchesWord p w = true ↔ (decodeCondition w).isSome = true ∧
      matchesKey r (classOp w) (dpOp1 w) (dpOp2 w) ∧ (r.id = 22 → p = .supervisorCall) := by
  obtain ⟨hm, hv⟩ := inKey_of_mem r hr
  rw [matchesKey, ← and_eq_iff_hits hm hv, ← and_cond_ne_iff]
  simp only [OpcodeRow.matchesWord, Bool.and_eq_true, Bool.or_eq_true, beq_iff_eq, bne_iff_ne]
  tauto

/-! ### The four families of rows -/

/-- The S bit that a test opcode forces (R222). -/
def forcedS (k : BitVec 4) : BitVec 1 := BitVec.ofBool (isTestOpcode k)

/-- The row of opcode `k` in the data-processing form `f`: the gate, the bits that select `f`, the opcode, the S bit of
a test opcode (R230 to R245). -/
def dataProcessingRow (f : DataProcessingForm) (k : BitVec 4) : OpcodeRow :=
  ⟨mnemonicId (dpMnemonic k), some f, encodeMask f ||| 0x0DE00000 ||| (forcedS k).setWidth 32 <<< 20,
    encodeValue f ||| k.setWidth 32 <<< 21 ||| (forcedS k).setWidth 32 <<< 20⟩

/-- The row of a LoadStore mnemonic, by its L and B bits (R246 to R249). -/
def loadStoreRow (l b : BitVec 1) : OpcodeRow :=
  ⟨mnemonicId (lsMnemonic l b), none, 0x0E500000,
    0x04000000 ||| b.setWidth 32 <<< 22 ||| l.setWidth 32 <<< 20⟩

/-- `B` and `Bl`, by the link bit (R225). -/
def branchMnemonic (link : BitVec 1) : Mnemonic := if link = 1 then .bl else .b

/-- The row of a Branch mnemonic (R250, R251). -/
def branchRow (link : BitVec 1) : OpcodeRow :=
  ⟨mnemonicId (branchMnemonic link), none, 0x0D000000, 0x08000000 ||| link.setWidth 32 <<< 24⟩

/-- The row of `Swi` (R252). -/
def swiRow : OpcodeRow := ⟨22, none, 0x0C000000, 0x0C000000⟩

/-- The rows of the table by family. -/
inductive TableRow : OpcodeRow → Prop
  | dataProcessing {f : DataProcessingForm} (hf : isResolvedForm f = true) (k : BitVec 4) :
      TableRow (dataProcessingRow f k)
  | loadStore (l b : BitVec 1) : TableRow (loadStoreRow l b)
  | branch (link : BitVec 1) : TableRow (branchRow link)
  | swi : TableRow swiRow

theorem registerRows_eq :
    registerRows = List.ofFn fun k : Fin 16 => dataProcessingRow .dataProcessingRegister (.ofFin k) := by decide

theorem registerShiftedRows_eq :
    registerShiftedRows = List.ofFn fun k : Fin 16 => dataProcessingRow .dataProcessingRegisterShifted (.ofFin k) := by
  decide

theorem immediateRows_eq :
    immediateRows = List.ofFn fun k : Fin 16 => dataProcessingRow .dataProcessingImmediate (.ofFin k) := by decide

theorem otherRows_eq :
    otherRows = [loadStoreRow 1 0, loadStoreRow 0 0, loadStoreRow 1 1, loadStoreRow 0 1, branchRow 0, branchRow 1,
      swiRow] := by
  decide

theorem tableRow_of_mem {r : OpcodeRow} (hr : r ∈ opcodeTable) : TableRow r := by
  simp only [opcodeTable, List.mem_append, registerRows_eq, registerShiftedRows_eq, immediateRows_eq, otherRows_eq,
    List.mem_ofFn, List.mem_cons, List.not_mem_nil, or_false] at hr
  obtain ((⟨k, rfl⟩ | ⟨k, rfl⟩) | ⟨k, rfl⟩) | rfl | rfl | rfl | rfl | rfl | rfl | rfl := hr
  case inl.inl.inl | inl.inl.inr | inl.inr => exact .dataProcessing rfl _
  case inr.inr.inr.inr.inr.inl | inr.inr.inr.inr.inr.inr.inl => exact .branch _
  case inr.inr.inr.inr.inr.inr.inr => exact .swi
  all_goals exact .loadStore _ _

theorem resolvedForm_cases {f : DataProcessingForm} (hf : isResolvedForm f = true) :
    f = .dataProcessingRegister ∨ f = .dataProcessingRegisterShifted ∨ f = .dataProcessingImmediate := by
  cases f <;> revert hf <;> decide

theorem mem_of_tableRow {r : OpcodeRow} (hr : TableRow r) : r ∈ opcodeTable := by
  cases hr with
  | dataProcessing hf k => obtain rfl | rfl | rfl := resolvedForm_cases hf <;> revert k <;> decide
  | loadStore l b => revert l b; decide
  | branch link => revert link; decide
  | swi => decide

/-! ### The words a row matches -/

/-- Only the Swi row reads the policy. -/
theorem matchesWord_iff_matchesKey {r : OpcodeRow} (hr : TableRow r) (hid : r.id ≠ 22) (p : Class11xPolicy)
    (w : Word) : r.matchesWord p w = true ↔
      (decodeCondition w).isSome = true ∧ matchesKey r (classOp w) (dpOp1 w) (dpOp2 w) := by
  simp only [matchesWord_iff (mem_of_tableRow hr), hid, false_imp_iff, and_true]

/-- A mask without bits in a slice leaves the slice free. -/
theorem hits_zero {n : Nat} (v : BitVec n) : hits v 0 0 = true := by simp [hits]

/-- The sub-form is the one whose predicate holds, since only one does (R194, R196). -/
theorem decodeSubform_eq_some {w : Word} {f : DataProcessingForm} : decodeSubform w = some f ↔
    classGate w = 0b00#2 ∧ formPredicate f (dpOp w) (dpOp1 w) (dpOp2 w) = true := by
  have hmem : f ∈ formsOfKey (dpOp w) (dpOp1 w) (dpOp2 w) ↔
      formPredicate f (dpOp w) (dpOp1 w) (dpOp2 w) = true := by
    have hall : f ∈ allForms := by cases f <;> decide
    simp [formsOfKey, hall]
  obtain ⟨g, hg⟩ := List.length_eq_one_iff.mp (length_formsOfKey (dpOp w) (dpOp1 w) (dpOp2 w))
  rw [← hmem, hg, decodeSubform, matchingForms, hg]
  by_cases hgate : classGate w = 0b00#2 <;> simp [hgate, eq_comm]

/-- The slices of a data-processing row. -/
theorem dataProcessingRow_slices {f : DataProcessingForm} (hf : isResolvedForm f = true) (k : BitVec 4) :
    (classOp (dataProcessingRow f k).mask = 0b111#3 ∧
      classOp (dataProcessingRow f k).value = 0b00#2 ++ dpOp (encodeValue f)) ∧
    (dpOp1 (dataProcessingRow f k).mask = 0b1111#4 ++ forcedS k ∧
      dpOp1 (dataProcessingRow f k).value = k ++ forcedS k) ∧
    (dpOp2 (dataProcessingRow f k).mask = dpOp2 (encodeMask f) ∧
      dpOp2 (dataProcessingRow f k).value = dpOp2 (encodeValue f)) := by
  obtain rfl | rfl | rfl := resolvedForm_cases hf <;> revert k <;> decide

theorem dpOpcode_append_bit20 (w : Word) : dpOpcode w ++ bit20 w = dpOp1 w :=
  BitVec.extractLsb'_append_extractLsb'_eq_extractLsb' rfl

/-- An opcode row with its forced S bit leaves out the keys `10xx0` (R182, R222). -/
theorem hits_opcode : ∀ (k op : BitVec 4) (s : BitVec 1),
    hits (op ++ s) (0b1111#4 ++ forcedS k) (k ++ forcedS k) = true ↔ testWithoutS (op ++ s) = false ∧ op = k := by
  decide

theorem hits_classOp : ∀ (g : BitVec 2) (op v : BitVec 1),
    hits (g ++ op) 0b111#3 (0b00#2 ++ v) = true ↔ g = 0b00#2 ∧ op = v := by
  decide

theorem formPredicate_of_resolved {f : DataProcessingForm} (hf : isResolvedForm f = true) (op : BitVec 1)
    (op1 : BitVec 5) (op2 : BitVec 4) : formPredicate f op op1 op2 = true ↔ op = dpOp (encodeValue f) ∧
      testWithoutS op1 = false ∧ hits op2 (dpOp2 (encodeMask f)) (dpOp2 (encodeValue f)) = true := by
  obtain rfl | rfl | rfl := resolvedForm_cases hf
  all_goals simp [formPredicate, encodeMask, encodeValue, dpOp, dpOp2, and_assoc, hits]

theorem dataProcessingRow_matches {f : DataProcessingForm} (hf : isResolvedForm f = true) (k : BitVec 4)
    (p : Class11xPolicy) (w : Word) : (dataProcessingRow f k).matchesWord p w = true ↔
      (decodeCondition w).isSome = true ∧ decodeSubform w = some f ∧ dpOpcode w = k := by
  obtain ⟨⟨hm, hv⟩, ⟨hm1, hv1⟩, hm2, hv2⟩ := dataProcessingRow_slices hf k
  have hid : ∀ k : BitVec 4, mnemonicId (dpMnemonic k) ≠ 22 := by decide
  rw [matchesWord_iff_matchesKey (.dataProcessing hf k) (hid k), matchesKey, hm, hv, hm1, hv1, hm2, hv2,
    decodeSubform_eq_some, formPredicate_of_resolved hf, ← classGate_append_dpOp, hits_classOp,
    ← dpOpcode_append_bit20, hits_opcode]
  tauto

theorem loadStoreRow_slices : ∀ l b : BitVec 1,
    (classOp (loadStoreRow l b).mask = 0b111#3 ∧ classOp (loadStoreRow l b).value = 0b010#3) ∧
    (dpOp1 (loadStoreRow l b).mask = 0b00101#5 ∧
      dpOp1 (loadStoreRow l b).value = 0#2 ++ b ++ 0#1 ++ l) ∧
    dpOp2 (loadStoreRow l b).mask = 0 ∧ dpOp2 (loadStoreRow l b).value = 0 := by
  decide

theorem hits_loadStore : ∀ (hi : BitVec 2) (b' mid l' b l : BitVec 1),
    hits (hi ++ b' ++ mid ++ l') 0b00101#5 (0#2 ++ b ++ 0#1 ++ l) = true ↔ l' = l ∧ b' = b := by
  decide

theorem loadStoreRow_matches (l b : BitVec 1) (p : Class11xPolicy) (w : Word) :
    (loadStoreRow l b).matchesWord p w = true ↔ (decodeCondition w).isSome = true ∧
      decodeClass p w = some .loadStore ∧ bit20 w = l ∧ bit22 w = b := by
  obtain ⟨⟨hm, hv⟩, ⟨hm1, hv1⟩, hm2, hv2⟩ := loadStoreRow_slices l b
  have hid : ∀ l b : BitVec 1, mnemonicId (lsMnemonic l b) ≠ 22 := by decide
  have hop1 : w.extractLsb' 23 2 ++ bit22 w ++ w.extractLsb' 21 1 ++ bit20 w = dpOp1 w := by
    simp only [bit22, bit20, dpOp1, BitVec.extractLsb'_append_extractLsb'_eq_extractLsb']
  have hclass : ∀ (op : BitVec 3) (op1 : BitVec 1),
      hits op 0b111#3 0b010#3 = true ↔ classOfFields p op op1 = some .loadStore := by
    cases p <;> decide
  rw [matchesWord_iff_matchesKey (.loadStore l b) (hid l b), matchesKey, hm, hv, hm1, hv1, hm2, hv2, ← hop1,
    hits_loadStore, hclass _ (classOp1 w), ← decodeClass]
  simp only [hits_zero, and_true]

theorem branchRow_slices : ∀ link : BitVec 1,
    (classOp (branchRow link).mask = 0b110#3 ∧ classOp (branchRow link).value = 0b100#3) ∧
    (dpOp1 (branchRow link).mask = 0b10000#5 ∧ dpOp1 (branchRow link).value = link ++ 0#4) ∧
    dpOp2 (branchRow link).mask = 0 ∧ dpOp2 (branchRow link).value = 0 := by
  decide

theorem hits_branch : ∀ (link' : BitVec 1) (lo : BitVec 4) (link : BitVec 1),
    hits (link' ++ lo) 0b10000#5 (link ++ 0#4) = true ↔ link' = link := by
  decide

theorem branchRow_matches (link : BitVec 1) (p : Class11xPolicy) (w : Word) :
    (branchRow link).matchesWord p w = true ↔
      (decodeCondition w).isSome = true ∧ decodeClass p w = some .branch ∧ bit24 w = link := by
  obtain ⟨⟨hm, hv⟩, ⟨hm1, hv1⟩, hm2, hv2⟩ := branchRow_slices link
  have hid : ∀ link : BitVec 1, mnemonicId (branchMnemonic link) ≠ 22 := by decide
  have hop1 : bit24 w ++ w.extractLsb' 20 4 = dpOp1 w :=
    BitVec.extractLsb'_append_extractLsb'_eq_extractLsb' rfl
  have hclass : ∀ (op : BitVec 3) (op1 : BitVec 1),
      hits op 0b110#3 0b100#3 = true ↔ classOfFields p op op1 = some .branch := by
    cases p <;> decide
  rw [matchesWord_iff_matchesKey (.branch link) (hid link), matchesKey, hm, hv, hm1, hv1, hm2, hv2, ← hop1,
    hits_branch, hclass _ (classOp1 w), ← decodeClass]
  simp only [hits_zero, and_true]

theorem swiRow_slices : (classOp swiRow.mask = 0b110#3 ∧ classOp swiRow.value = 0b110#3) ∧
    (dpOp1 swiRow.mask = 0 ∧ dpOp1 swiRow.value = 0) ∧ dpOp2 swiRow.mask = 0 ∧ dpOp2 swiRow.value = 0 := by
  decide

/-- The Swi row exists under the policy under which its class does (R67, R151). -/
theorem swiRow_matches (p : Class11xPolicy) (w : Word) : swiRow.matchesWord p w = true ↔
    (decodeCondition w).isSome = true ∧ decodeClass p w = some .supervisorCall := by
  obtain ⟨⟨hm, hv⟩, ⟨hm1, hv1⟩, hm2, hv2⟩ := swiRow_slices
  have hid : swiRow.id = 22 := rfl
  have hclass : ∀ (op : BitVec 3) (op1 : BitVec 1), hits op 0b110#3 0b110#3 = true ∧ p = .supervisorCall ↔
      classOfFields p op op1 = some .supervisorCall := by
    cases p <;> decide
  rw [matchesWord_iff (mem_of_tableRow .swi), matchesKey, hm, hv, hm1, hv1, hm2, hv2, decodeClass, ← hclass]
  simp only [hits_zero, hid, and_true, true_imp_iff]

/-! ### The tree on the words of each family -/

theorem decodeClass_of_gate {w : Word} (p : Class11xPolicy) (hg : classGate w = 0b00#2) :
    decodeClass p w = some .dataProcessing := by
  rw [decodeClass, ← classGate_append_dpOp, hg]
  rcases BitVec.eq_zero_or_eq_one (dpOp w) with h | h <;> rw [h] <;> rfl

theorem tableRow_resolves {r : OpcodeRow} {p : Class11xPolicy} {w : Word} (hr : TableRow r)
    (h : r.matchesWord p w = true) :
    mnemonicId (decodeInstruction p w) = r.id ∧ (r.form ≠ none → decodeSubform w = r.form) := by
  cases hr with
  | dataProcessing hf k =>
    obtain ⟨hc, hs, rfl⟩ := (dataProcessingRow_matches hf k p w).mp h
    obtain ⟨c, hc⟩ := Option.isSome_iff_exists.mp hc
    have hclass := decodeClass_of_gate p (decodeSubform_eq_some.mp hs).1
    simp [decodeInstruction, hc, hclass, hs, hf, dataProcessingRow]
  | loadStore l b =>
    obtain ⟨hc, hclass, rfl, rfl⟩ := (loadStoreRow_matches l b p w).mp h
    obtain ⟨c, hc⟩ := Option.isSome_iff_exists.mp hc
    simp [decodeInstruction, hc, hclass, loadStoreRow]
  | branch link =>
    obtain ⟨hc, hclass, rfl⟩ := (branchRow_matches link p w).mp h
    obtain ⟨c, hc⟩ := Option.isSome_iff_exists.mp hc
    simp [decodeInstruction, hc, hclass, branchRow, branchMnemonic]
  | swi =>
    obtain ⟨hc, hclass⟩ := (swiRow_matches p w).mp h
    obtain ⟨c, hc⟩ := Option.isSome_iff_exists.mp hc
    simp [decodeInstruction, hc, hclass, swiRow, mnemonicId]

/-- Every branch of the tree that answers a mnemonic has its row (R221, R227). -/
theorem undefined_or_tableRow_matches (p : Class11xPolicy) (w : Word) :
    decodeInstruction p w = .undefined w ∨ ∃ r, TableRow r ∧ r.matchesWord p w = true := by
  unfold decodeInstruction
  split
  case h_1 => exact .inl rfl
  case h_2 c hc =>
    have hc : (decodeCondition w).isSome = true := Option.isSome_of_eq_some hc
    split
    case h_2 =>
      split
      case h_1 f hs =>
        split
        case isTrue hf =>
          exact .inr ⟨_, .dataProcessing hf _, (dataProcessingRow_matches hf _ p w).mpr ⟨hc, hs, rfl⟩⟩
        case isFalse => exact .inl rfl
      case h_2 => exact .inl rfl
    case h_3 hclass => exact .inr ⟨_, .loadStore _ _, (loadStoreRow_matches _ _ p w).mpr ⟨hc, hclass, rfl, rfl⟩⟩
    case h_4 hclass => exact .inr ⟨_, .branch _, (branchRow_matches _ p w).mpr ⟨hc, hclass, rfl⟩⟩
    case h_5 hclass => exact .inr ⟨_, .swi, (swiRow_matches p w).mpr ⟨hc, hclass⟩⟩
    all_goals exact .inl rfl

/-! ### No word matches two rows -/

theorem opcodeTable_pairwise_id_or_form :
    opcodeTable.Pairwise fun a b => a.id ≠ b.id ∨ (a.form ≠ none ∧ b.form ≠ none ∧ a.form ≠ b.form) := by
  decide

/-- A word has one mnemonic and one sub-form, and two rows differ in one of the two. -/
theorem opcodeTable_pairwise_disjoint : opcodeTable.Pairwise fun a b => ∀ (p : Class11xPolicy) (w : Word),
    ¬ (a.matchesWord p w = true ∧ b.matchesWord p w = true) := by
  refine opcodeTable_pairwise_id_or_form.imp_of_mem fun ha hb hne p w ⟨hwa, hwb⟩ => ?_
  obtain ⟨hida, hforma⟩ := tableRow_resolves (tableRow_of_mem ha) hwa
  obtain ⟨hidb, hformb⟩ := tableRow_resolves (tableRow_of_mem hb) hwb
  rcases hne with hid | ⟨hsa, hsb, hform⟩
  · exact hid (hida.symm.trans hidb)
  · exact hform ((hforma hsa).symm.trans (hformb hsb))

/-- Settles O27: each row matches the words the tree gives its mnemonic and sub-form, a word of no row is undefined,
and two rows would give one word two answers. -/
theorem opcodeTableEqualsResolver : Obligations.OpcodeTableEqualsResolver := by
  unfold Obligations.OpcodeTableEqualsResolver
  refine ⟨rfl, fun p w r hr => tableRow_resolves (tableRow_of_mem hr), fun p w hno => ?_,
    opcodeTable_pairwise_disjoint⟩
  refine (undefined_or_tableRow_matches p w).resolve_right fun ⟨r, hr, hmatch⟩ => ?_
  rw [hno r (mem_of_tableRow hr)] at hmatch
  cases hmatch

end Sys2Proof.Table

/-! ## The BitField extractor (spec/40_bitfield.md)

The read value is the one value with the gathered bits (`eq_gather_iff`), the written word the one word with the
scattered bits and the old bits elsewhere (`eq_scatter_iff`). Every law below compares bits through these two. -/

namespace Sys2Proof.BitFields

open Sys2Proof.Machine

/-! ### The check of a position list (R101) -/

theorem positionsValid_iff {P : List Nat} :
    positionsValid P = true ↔ P ≠ [] ∧ (∀ p ∈ P, p < 32) ∧ P.Nodup := by
  simp [positionsValid, and_assoc]

theorem lt_of_valid {P : List Nat} (hP : positionsValid P = true) : ∀ p ∈ P, p < 32 :=
  (positionsValid_iff.mp hP).2.1

theorem nodup_of_valid {P : List Nat} (hP : positionsValid P = true) : P.Nodup :=
  (positionsValid_iff.mp hP).2.2

theorem length_le_of_valid {P : List Nat} (hP : positionsValid P = true) : P.length ≤ 32 := by
  have hsub : P ⊆ List.range 32 := fun p hp => List.mem_range.mpr (lt_of_valid hP p hp)
  simpa using ((nodup_of_valid hP).subperm hsub).length_le

theorem nodup_iff_getElem_ne {P : List Nat} : P.Nodup ↔
    ∀ (i j : Nat) (hi : i < P.length) (hj : j < P.length), i ≠ j → P[i] ≠ P[j] := by
  constructor
  · intro hP i j hi hj hij heq
    exact hij (hP.getElem_inj_iff.mp heq)
  · intro h
    exact List.pairwise_iff_getElem.mpr fun i j hi hj hij => h i j hi hj hij.ne

theorem bfRead_of_valid {P : List Nat} (hP : positionsValid P = true) (w : Word) :
    bfRead w P = .ok (gather w P) := if_pos hP

theorem bfRead_of_invalid {P : List Nat} (hP : positionsValid P = false) (w : Word) :
    bfRead w P = .error (.invalidBitPosition P) := if_neg (ne_true_of_eq_false hP)

theorem bfWrite_of_valid {P : List Nat} (hP : positionsValid P = true) (w : Word) (v : Nat) :
    bfWrite w v P = .ok (scatter w v P) := if_pos hP

theorem bfWrite_of_invalid {P : List Nat} (hP : positionsValid P = false) (w : Word) (v : Nat) :
    bfWrite w v P = .error (.invalidBitPosition P) := if_neg (ne_true_of_eq_false hP)

theorem bfMatch_of_valid {P : List Nat} (hP : positionsValid P = true) (w : Word) (e : Nat) :
    bfMatch w P e = .ok (decide ((gather w P).toNat = e % 2 ^ P.length)) := by
  have hbeq : (gather w P == BitVec.ofNat P.length e) = decide ((gather w P).toNat = e % 2 ^ P.length) := by
    rw [Bool.eq_iff_iff, beq_iff_eq, decide_eq_true_iff, ← BitVec.toNat_inj, BitVec.toNat_ofNat]
  rw [bfMatch, bfRead_of_valid hP, ← hbeq]

theorem bfMatch_of_invalid {P : List Nat} (hP : positionsValid P = false) (w : Word) (e : Nat) :
    bfMatch w P e = .error (.invalidBitPosition P) := by
  rw [bfMatch, bfRead_of_invalid hP]

/-- Settles O1: the two spellings of "pairwise distinct" agree, and a valid list is no longer than the range 0 to 31. -/
theorem bitFieldListCheck : Obligations.BitFieldListCheck := by
  unfold Obligations.BitFieldListCheck
  refine ⟨fun P => ?_, fun P => length_le_of_valid, fun w v e P hP => ?_⟩
  · rw [positionsValid_iff, nodup_iff_getElem_ne]
  · exact ⟨bfRead_of_invalid hP w, bfWrite_of_invalid hP w v, bfMatch_of_invalid hP w e⟩

/-! ### The bits of the value read (R102) -/

theorem getLsbD_gather (w : Word) (P : List Nat) (i : Nat) (h : i < P.length) :
    (gather w P).getLsbD (P.length - 1 - i) = w.getLsbD P[i] := by
  induction P generalizing i with
  | nil => cases h
  | cons p ps ih =>
    rw [gather, BitVec.getLsbD_cons]
    cases i with
    | zero => simp
    | succ i =>
      have hi : i < ps.length := Nat.lt_of_succ_lt_succ h
      have hidx : (p :: ps).length - 1 - (i + 1) = ps.length - 1 - i := by simp only [List.length_cons]; omega
      have hne : ps.length - 1 - i ≠ ps.length := by omega
      rw [hidx, if_neg hne, ih i hi, List.getElem_cons_succ]

/-- The bits listed from the top determine the value read. -/
theorem eq_gather_iff {w : Word} {P : List Nat} {u : BitVec P.length} : u = gather w P ↔
    ∀ (i : Nat) (h : i < P.length), u.getLsbD (P.length - 1 - i) = w.getLsbD P[i] := by
  constructor
  · rintro rfl i h
    exact getLsbD_gather w P i h
  · intro hu
    apply BitVec.eq_of_getLsbD_eq
    intro k hk
    have hback : P.length - 1 - (P.length - 1 - k) = k := by omega
    have hi : P.length - 1 - k < P.length := by omega
    rw [← hback, hu _ hi, getLsbD_gather]

/-- Settles O2: the value read has the gathered bits. -/
theorem bitFieldReadGathersBits : Obligations.BitFieldReadGathersBits := by
  unfold Obligations.BitFieldReadGathersBits
  refine ⟨fun w P hP => ?_, fun w P hP => bfRead_of_invalid hP w, by decide⟩
  exact ⟨gather w P, bfRead_of_valid hP w, getLsbD_gather w P⟩

/-! ### The bits of the word written (R103) -/

theorem getLsbD_scatter_of_notMem (w : Word) (v : Nat) {P : List Nat} (hlt : ∀ p ∈ P, p < 32) {q : Nat}
    (hq : q ∉ P) : (scatter w v P).getLsbD q = w.getLsbD q := by
  induction P with
  | nil => rfl
  | cons p ps ih =>
    obtain ⟨hp, hps⟩ := List.forall_mem_cons.mp hlt
    obtain ⟨hne, hq⟩ := List.ne_and_not_mem_of_not_mem_cons hq
    rw [scatter, getLsbD_setBit _ _ _ _ hp, if_neg hne, ih hps hq]

/-- The head is written last, so it must not occur again in the tail. -/
theorem getLsbD_scatter_getElem (w : Word) (v : Nat) {P : List Nat} (hlt : ∀ p ∈ P, p < 32) (hnd : P.Nodup)
    (i : Nat) (h : i < P.length) : (scatter w v P).getLsbD P[i] = v.testBit (P.length - 1 - i) := by
  induction P generalizing i with
  | nil => cases h
  | cons p ps ih =>
    obtain ⟨hp, hps⟩ := List.forall_mem_cons.mp hlt
    obtain ⟨hnotMem, hnd⟩ := List.nodup_cons.mp hnd
    rw [scatter, getLsbD_setBit _ _ _ _ hp]
    cases i with
    | zero => simp
    | succ i =>
      have hi : i < ps.length := Nat.lt_of_succ_lt_succ h
      have hne : ps[i] ≠ p := ne_of_mem_of_not_mem (List.getElem_mem hi) hnotMem
      have hidx : (p :: ps).length - 1 - (i + 1) = ps.length - 1 - i := by simp only [List.length_cons]; omega
      rw [List.getElem_cons_succ, if_neg hne, ih hps hnd i hi, hidx]

/-- The bits at the positions and the bits elsewhere determine the word written. -/
theorem eq_scatter_iff {P : List Nat} (hP : positionsValid P = true) {w r : Word} {v : Nat} :
    r = scatter w v P ↔
      (∀ (i : Nat) (h : i < P.length), r.getLsbD P[i] = v.testBit (P.length - 1 - i)) ∧
      ∀ q : Nat, q ∉ P → r.getLsbD q = w.getLsbD q := by
  have hlt := lt_of_valid hP
  have hin := getLsbD_scatter_getElem w v hlt (nodup_of_valid hP)
  constructor
  · rintro rfl
    exact ⟨hin, fun q hq => getLsbD_scatter_of_notMem w v hlt hq⟩
  · rintro ⟨hwritten, hkept⟩
    apply BitVec.eq_of_getLsbD_eq
    intro q _
    by_cases hq : q ∈ P
    · obtain ⟨i, hi, rfl⟩ := List.getElem_of_mem hq
      rw [hwritten i hi, hin i hi]
    · rw [hkept q hq, getLsbD_scatter_of_notMem w v hlt hq]

theorem getLsbD_scatter_of_valid {P : List Nat} (hP : positionsValid P = true) (w : Word) (v : Nat) :
    (∀ (i : Nat) (h : i < P.length), (scatter w v P).getLsbD P[i] = v.testBit (P.length - 1 - i)) ∧
    ∀ q : Nat, q ∉ P → (scatter w v P).getLsbD q = w.getLsbD q :=
  (eq_scatter_iff hP).mp rfl

/-- Settles O3: the word written has the scattered bits and keeps the others, so `w` is it when its bits agree. -/
theorem bitFieldWriteScattersBits : Obligations.BitFieldWriteScattersBits := by
  unfold Obligations.BitFieldWriteScattersBits
  refine ⟨fun w v P hP => ?_, fun w v P hP => bfWrite_of_invalid hP w v, by decide⟩
  obtain ⟨hwritten, hkept⟩ := getLsbD_scatter_of_valid hP w v
  refine ⟨scatter w v P, bfWrite_of_valid hP w v, hwritten, hkept, fun hsame => ?_⟩
  exact ((eq_scatter_iff hP).mpr ⟨fun i h => (hsame i h).symm, fun _ _ => rfl⟩).symm

/-! ### Only the low bits of the value are read (R104, R105) -/

theorem scatter_congr (w : Word) {v u : Nat} {P : List Nat} (h : ∀ k < P.length, v.testBit k = u.testBit k) :
    scatter w v P = scatter w u P := by
  induction P with
  | nil => rfl
  | cons p ps ih =>
    have hps : ∀ k < ps.length, v.testBit k = u.testBit k := fun k hk => h k (Nat.lt_succ_of_lt hk)
    rw [scatter, scatter, ih hps, h ps.length (Nat.lt_succ_self _)]

theorem bfWrite_mod (w : Word) (v : Nat) (P : List Nat) : bfWrite w v P = bfWrite w (v % 2 ^ P.length) P := by
  have hbits : ∀ k < P.length, v.testBit k = (v % 2 ^ P.length).testBit k := fun k hk => by
    simp [Nat.testBit_mod_two_pow, hk]
  rw [bfWrite, bfWrite, scatter_congr w hbits]

theorem bfMatch_mod (w : Word) (P : List Nat) (e : Nat) : bfMatch w P e = bfMatch w P (e % 2 ^ P.length) := by
  have hofNat : BitVec.ofNat P.length (e % 2 ^ P.length) = BitVec.ofNat P.length e :=
    BitVec.eq_of_toNat_eq (by simp only [BitVec.toNat_ofNat, Nat.mod_mod])
  rw [bfMatch, bfMatch, hofNat]

/-- Settles O4: equality of bit vectors is equality of their values modulo `2^n`. -/
theorem bitFieldMatchComparesLowBits : Obligations.BitFieldMatchComparesLowBits := by
  unfold Obligations.BitFieldMatchComparesLowBits
  refine ⟨fun w P e hP => ?_, fun w P e hP => bfMatch_of_invalid hP w e, fun w v e P => ?_, by decide⟩
  · exact ⟨gather w P, bfRead_of_valid hP w, bfMatch_of_valid hP w e⟩
  · exact ⟨bfWrite_mod w v P, bfMatch_mod w P e⟩

/-! ### Reads after writes and writes after reads (R109, R110) -/

theorem gather_scatter {P : List Nat} (hP : positionsValid P = true) (w : Word) (v : Nat) :
    gather (scatter w v P) P = BitVec.ofNat P.length v := by
  refine (eq_gather_iff.mpr fun i h => ?_).symm
  have hlt : P.length - 1 - i < P.length := by omega
  rw [(getLsbD_scatter_of_valid hP w v).1 i h, BitVec.getLsbD_ofNat, decide_eq_true hlt, Bool.true_and]

theorem scatter_gather {P : List Nat} (hP : positionsValid P = true) (w : Word) :
    scatter w (gather w P).toNat P = w := by
  refine ((eq_scatter_iff hP).mpr ⟨fun i h => ?_, fun _ _ => rfl⟩).symm
  rw [BitVec.testBit_toNat, getLsbD_gather]

theorem scatter_scatter {P : List Nat} (hP : positionsValid P = true) (w : Word) (v u : Nat) :
    scatter (scatter w v P) u P = scatter w u P := by
  obtain ⟨hwritten, hkept⟩ := getLsbD_scatter_of_valid hP (scatter w v P) u
  refine (eq_scatter_iff hP).mpr ⟨hwritten, fun q hq => ?_⟩
  rw [hkept q hq, (getLsbD_scatter_of_valid hP w v).2 q hq]

/-- Settles O5: the bits scattered are the bits gathered, and the frame is that of the write. -/
theorem bitFieldReadAfterWrite : Obligations.BitFieldReadAfterWrite := by
  unfold Obligations.BitFieldReadAfterWrite
  intro P hP
  have hread (w : Word) (v : Nat) : bfRead (scatter w v P) P = .ok (BitVec.ofNat P.length v) := by
    rw [bfRead_of_valid hP, gather_scatter hP]
  refine ⟨fun v hv => ?_, fun w v => ?_⟩
  · exact ⟨_, _, bfWrite_of_valid hP 0 v, hread 0 v, (BitVec.toNat_ofNat _ _).trans (Nat.mod_eq_of_lt hv)⟩
  · exact ⟨_, bfWrite_of_valid hP w v, hread w v, (getLsbD_scatter_of_valid hP w v).2⟩

/-- Settles O6: both words have the bits of the last write at the positions and the old bits elsewhere. -/
theorem bitFieldWriteIdempotence : Obligations.BitFieldWriteIdempotence := by
  unfold Obligations.BitFieldWriteIdempotence
  intro w P hP
  refine ⟨⟨gather w P, bfRead_of_valid hP w, ?_⟩, fun v u => ⟨scatter w v P, bfWrite_of_valid hP w v, ?_⟩⟩
  · rw [bfWrite_of_valid hP, scatter_gather hP]
  · rw [bfWrite_of_valid hP, bfWrite_of_valid hP, scatter_scatter hP]

/-! ### Slices (R108) -/

@[simp] theorem length_descending (lo n : Nat) : (descending lo n).length = n := by
  induction n with
  | zero => rfl
  | succ n ih => rw [descending, List.length_cons, ih]

theorem mem_descending {lo n q : Nat} : q ∈ descending lo n ↔ lo ≤ q ∧ q < lo + n := by
  induction n with
  | zero =>
    have hempty : ¬ (lo ≤ q ∧ q < lo + 0) := by omega
    simp only [descending, List.not_mem_nil, hempty]
  | succ n ih =>
    rw [descending, List.mem_cons, ih]
    omega

theorem nodup_descending (lo n : Nat) : (descending lo n).Nodup := by
  induction n with
  | zero => exact List.nodup_nil
  | succ n ih =>
    have hnew : lo + n ∉ descending lo n := fun h => (mem_descending.mp h).2.false
    exact List.nodup_cons.mpr ⟨hnew, ih⟩

theorem getElem_descending (lo n i : Nat) (h : i < (descending lo n).length) :
    (descending lo n)[i] = lo + (n - 1 - i) := by
  induction n generalizing i with
  | zero => cases h
  | succ n ih =>
    cases i with
    | zero => rfl
    | succ i =>
      have hi : i < (descending lo n).length := Nat.lt_of_succ_lt_succ h
      have hidx : n + 1 - 1 - (i + 1) = n - 1 - i := by omega
      rw [hidx, ← ih i hi]
      rfl

theorem positionsValid_descending {lo n : Nat} (hn : 0 < n) (hle : lo + n ≤ 32) :
    positionsValid (descending lo n) = true := by
  refine positionsValid_iff.mpr ⟨?_, fun p hp => ?_, nodup_descending lo n⟩
  · rw [← List.length_pos_iff, length_descending]
    exact hn
  · exact (mem_descending.mp hp).2.trans_le hle

/-- A slice read is the read of the descending list. -/
theorem gather_descending (w : Word) (lo n : Nat) :
    gather w (descending lo n) = (w.extractLsb' lo n).cast (length_descending lo n).symm := by
  refine (eq_gather_iff.mpr fun i h => ?_).symm
  have hlt : n - 1 - i < n := by rw [length_descending] at h; omega
  rw [BitVec.getLsbD_cast, getElem_descending, length_descending, BitVec.getLsbD_extractLsb', decide_eq_true hlt,
    Bool.true_and]

/-- A slice write is the write to the descending list. -/
theorem scatter_descending (w : Word) {lo n : Nat} (hn : 0 < n) (hle : lo + n ≤ 32) (v : BitVec n) :
    scatter w v.toNat (descending lo n) = putBits w lo v := by
  refine ((eq_scatter_iff (positionsValid_descending hn hle)).mpr ⟨fun i h => ?_, fun q hq => ?_⟩).symm
  · have hin : lo ≤ lo + (n - 1 - i) ∧ lo + (n - 1 - i) < lo + n := by omega
    rw [getElem_descending, length_descending, getLsbD_putBits _ _ _ _ hle, if_pos hin, Nat.add_sub_cancel_left,
      BitVec.testBit_toNat]
  · rw [getLsbD_putBits _ _ _ _ hle, if_neg (mt mem_descending.mpr hq)]

theorem bfRead_descending (w : Word) {lo n : Nat} (hn : 0 < n) (hle : lo + n ≤ 32) :
    bfRead w (descending lo n) = .ok ((w.extractLsb' lo n).cast (length_descending lo n).symm) := by
  rw [bfRead_of_valid (positionsValid_descending hn hle), gather_descending]

/-- The lowest bit and the width of each constant list. -/
def constantRanges : List (Nat × Nat) :=
  [(28, 4), (25, 3), (4, 1), (25, 1), (20, 5), (4, 4), (21, 4), (20, 1), (22, 1), (24, 1), (26, 2), (0, 24)]

theorem constantLists_eq : constantLists = constantRanges.map fun r => descending r.1 r.2 := rfl

theorem constantRanges_inWord : ∀ r ∈ constantRanges, 0 < r.2 ∧ r.1 + r.2 ≤ 32 := by decide

theorem positionsValid_of_mem_constantLists {P : List Nat} (hP : P ∈ constantLists) : positionsValid P = true := by
  rw [constantLists_eq] at hP
  obtain ⟨r, hr, rfl⟩ := List.mem_map.mp hP
  obtain ⟨hn, hle⟩ := constantRanges_inWord r hr
  exact positionsValid_descending hn hle

/-- Settles O7: a slice and its descending list name the same bits, and each field's list is a descending list. -/
theorem slicesAreBitFieldOperations : Obligations.SlicesAreBitFieldOperations := by
  unfold Obligations.SlicesAreBitFieldOperations
  have hfield (w : Word) (lo n : Nat) (h : 0 < n ∧ lo + n ≤ 32) := bfRead_descending w h.1 h.2
  refine ⟨fun w lo n hn hle => ⟨?_, fun v => ?_⟩, fun P => positionsValid_of_mem_constantLists, fun w => ?_⟩
  · exact ⟨_, bfRead_descending w hn hle, BitVec.toNat_cast _ _⟩
  · rw [bfWrite_of_valid (positionsValid_descending hn hle), scatter_descending w hn hle]
  · exact ⟨hfield w 28 4 (by decide), hfield w 25 3 (by decide), hfield w 4 1 (by decide), hfield w 25 1 (by decide),
      hfield w 20 5 (by decide), hfield w 4 4 (by decide), hfield w 21 4 (by decide), hfield w 20 1 (by decide),
      hfield w 22 1 (by decide), hfield w 24 1 (by decide), hfield w 26 2 (by decide), hfield w 0 24 (by decide)⟩

end Sys2Proof.BitFields

/-! ## The Condition matcher (spec/41_condition.md)

Two facts say what `decodeCondition` answers: a condition exactly on its code (`decodeCondition_eq_some`), none exactly
on 1111 (`decodeCondition_eq_none`). The ports and the mnemonic stage read that answer only. -/

namespace Sys2Proof.Conditions

open Sys2Proof.Machine Sys2Proof.Decoding Sys2Proof.Identifiers

/-! ### Decoding (R121, R123) -/

/-- 1111 is the one code left out of the table of R120. -/
theorem conditionOfCode_eq_none {k : BitVec 4} : conditionOfCode k = none ↔ k = 0b1111#4 := by
  revert k
  decide

theorem decodeCondition_eq_some {w : Word} {c : Condition} :
    decodeCondition w = some c ↔ w.extractLsb 31 28 = conditionCode c :=
  conditionOfCode_eq_some.trans eq_comm

theorem decodeCondition_eq_none {w : Word} : decodeCondition w = none ↔ w.extractLsb 31 28 = 0b1111#4 :=
  conditionOfCode_eq_none

theorem decodeCondition_congr {w u : Word} (h : w.extractLsb 31 28 = u.extractLsb 31 28) :
    decodeCondition w = decodeCondition u :=
  congrArg conditionOfCode h

/-- Settles O9: the answer is read off the table of codes, which leaves out 1111, and the table is entered with the
top nibble alone. -/
theorem decodeConditionReadsTopNibble : Obligations.DecodeConditionReadsTopNibble := by
  unfold Obligations.DecodeConditionReadsTopNibble
  exact ⟨fun _ => decodeCondition_eq_none.mpr, fun _ _ => decodeCondition_eq_some,
    fun _ _ => decodeCondition_congr, rfl⟩

/-- The first stage of the tree decides alone: without a condition no later stage is consulted (R221). -/
theorem decodeInstruction_of_no_condition {w : Word} (p : Class11xPolicy) (h : decodeCondition w = none) :
    decodeInstruction p w = .undefined w := by
  rw [decodeInstruction, h]

/-- Settles O10: 1111 decodes to no condition, and without a condition the tree answers `Undefined`. -/
theorem reservedConditionIsRejected : Obligations.ReservedConditionIsRejected := by
  unfold Obligations.ReservedConditionIsRejected
  intro p w hw
  have hnone : decodeCondition w = none := decodeCondition_eq_none.mpr hw
  exact ⟨hnone, decodeInstruction_of_no_condition p hnone⟩

/-! ### Encoding (R122, R126) -/

theorem encodeCondition_high (c : Condition) : (encodeCondition c).extractLsb 7 4 = 0#4 := by
  cases c <;> rfl

theorem encodeCondition_low (c : Condition) : (encodeCondition c).extractLsb 3 0 = conditionCode c := by
  cases c <;> rfl

theorem encodeCondPort_conditionCode (c : Condition) :
    encodeCondPort (conditionCode c) = .driven (conditionCode c) := by
  rw [encodeCondPort, conditionOfCode_conditionCode]
  exact congrArg PortOut.driven (encodeCondition_low c)

/-- Reading back a code just written, the other bits being those of any word. -/
theorem decodeCondition_putBits (c : Condition) (w : Word) :
    decodeCondition (putBits w 28 (conditionCode c)) = some c :=
  decodeCondition_eq_some.mpr (extractLsb'_putBits w 28 (conditionCode c) (by decide))

/-- Settles O11: the low bits of the encoding are the code, and both directions are `decodeCondition_eq_some`. -/
theorem conditionRoundTrip : Obligations.ConditionRoundTrip := by
  unfold Obligations.ConditionRoundTrip
  simp only [encodeCondition_low, true_and]
  refine ⟨fun c => ⟨encodeCondition_high c, conditionCode_ne_reserved c, encodeCondPort_conditionCode c⟩,
    decodeCondition_putBits, fun _ _ => decodeCondition_eq_some.mpr, fun w hw => ?_, rfl⟩
  obtain ⟨c, hc⟩ := Option.ne_none_iff_exists'.mp (mt decodeCondition_eq_none.mp hw)
  exact ⟨c, hc, (decodeCondition_eq_some.mp hc).symm⟩

/-! ### The ports (R124) -/

/-- A code names a condition unless all its bits are set. -/
theorem isSome_conditionOfCode (k : BitVec 4) :
    (conditionOfCode k).isSome = !(k.getLsbD 3 && k.getLsbD 2 && k.getLsbD 1 && k.getLsbD 0) := by
  revert k
  decide

theorem isSome_decodeCondition (w : Word) :
    (decodeCondition w).isSome = !(w.getLsbD 31 && w.getLsbD 30 && w.getLsbD 29 && w.getLsbD 28) := by
  have hbit (i : Nat) (hi : i < 4) : (condField w).getLsbD i = w.getLsbD (28 + i) := by
    simp [condField, hi]
  rw [decodeCondition, isSome_conditionOfCode, hbit 3, hbit 2, hbit 1, hbit 0] <;> decide

/-- `cond_code` passes the field through when it names a condition, and is zero-driven when it does not (R31). -/
theorem code_of_decodeCondition (w : Word) :
    ((decodeCondition w).map conditionCode).getD 0 =
      if (decodeCondition w).isSome then w.extractLsb 31 28 else 0#4 := by
  cases h : decodeCondition w with
  | none => rfl
  | some c => exact (decodeCondition_eq_some.mp h).symm

/-- Settles O12: the three ports are functions of the decoded condition, which is there unless bits 31:28 are set. -/
theorem conditionSignals : Obligations.ConditionSignals := by
  unfold Obligations.ConditionSignals
  exact fun _ w => ⟨isSome_decodeCondition w, code_of_decodeCondition w, rfl⟩

end Sys2Proof.Conditions

/-! ## The InstructionClass classifier (spec/42_class.md)

`decodeClass` is the table `classOfFields` on bits 27:25 and bit 4, and `encodeClass` is known by what it leaves in
these two fields. The round trips compare the fields; facts about the table alone are facts about its entries. -/

namespace Sys2Proof.Classes

open Sys2Proof.Machine Sys2Proof.Decoding

/-! ### Decoding (R151, R152) -/

/-- The row of the table that a class code enters. -/
theorem decodeClass_of_classOp (p : Class11xPolicy) {w : Word} {k : BitVec 3} (h : classOp w = k) :
    decodeClass p w = classOfFields p k (classOp1 w) := by
  rw [decodeClass, h]

theorem classOp1_eq_ofBool (w : Word) : classOp1 w = BitVec.ofBool (w.getLsbD 4) := by
  apply BitVec.eq_of_getLsbD_eq
  intro i hi
  obtain rfl : i = 0 := by omega
  simp [classOp1]

/-- Settles O13, one row of the table for each code. -/
theorem decodeClassTable : Obligations.DecodeClassTable := by
  unfold Obligations.DecodeClassTable
  refine fun p w => ⟨?_, ?_, ?_, ?_, ?_⟩
  · rintro (h | h) <;> exact decodeClass_of_classOp p h
  · exact decodeClass_of_classOp p
  · intro h
    rw [decodeClass_of_classOp p h, classOp1_eq_ofBool]
    cases w.getLsbD 4 <;> rfl
  · rintro (h | h) <;> exact decodeClass_of_classOp p h
  · rintro (h | h) <;> rw [decodeClass_of_classOp p h] <;> cases p <;> rfl

/-- The codes left without a class are those with the gate 11. -/
theorem classOfFields_eq_none (p : Class11xPolicy) : ∀ (g : BitVec 2) (op op1 : BitVec 1),
    classOfFields p (g ++ op) op1 = none ↔ p = .reject ∧ g = 0b11#2 := by
  cases p <;> decide

theorem decodeClass_eq_none {p : Class11xPolicy} {w : Word} :
    decodeClass p w = none ↔ p = .reject ∧ classGate w = 0b11#2 := by
  rw [decodeClass, ← classGate_append_dpOp, classOfFields_eq_none]

/-- No bit outside 27:25 and 4 is read, the condition field among them (R150). -/
theorem decodeClass_congr {w u : Word} (p : Class11xPolicy) (hop : classOp w = classOp u)
    (hop1 : classOp1 w = classOp1 u) : decodeClass p w = decodeClass p u := by
  rw [decodeClass, decodeClass, hop, hop1]

/-- Settles O14: only the gate 11 under Reject is left without a class, and the condition field lies outside the
fields read. -/
theorem decodeClassTotality : Obligations.DecodeClassTotality := by
  unfold Obligations.DecodeClassTotality
  refine ⟨fun w => ?_, fun w => ?_, fun p w k => ?_⟩
  · refine Option.isSome_iff_ne_none.mpr fun h => ?_
    cases (decodeClass_eq_none.mp h).1
  · exact decodeClass_eq_none.trans (and_iff_right rfl)
  · exact decodeClass_congr p (extractLsb'_putBits_of_disjoint w 28 k 25 3 (by decide) (by decide))
      (extractLsb'_putBits_of_disjoint w 28 k 4 1 (by decide) (by decide))

/-! ### Encoding (R153, R154) -/

/-- What `encodeClass` writes to bit 4: the bit that tells LoadStoreMultiple and Media apart. -/
def writtenOp1 : InstructionClass → Option (BitVec 1)
  | .loadStoreMultiple => some 0#1
  | .media => some 1#1
  | _ => none

theorem encodeClass_eq (c : InstructionClass) (w : Word) : encodeClass c w =
    (writtenOp1 c).elim (putBits w 25 (canonicalClassOp c)) (putBits (putBits w 25 (canonicalClassOp c)) 4) := by
  cases c <;> rfl

@[simp] theorem classOp_encodeClass (c : InstructionClass) (w : Word) :
    classOp (encodeClass c w) = canonicalClassOp c := by
  have hcode : classOp (putBits w 25 (canonicalClassOp c)) = canonicalClassOp c :=
    extractLsb'_putBits w 25 _ (by decide)
  rw [encodeClass_eq]
  cases writtenOp1 c with
  | none => exact hcode
  | some b => exact (extractLsb'_putBits_of_disjoint _ 4 b 25 3 (by decide) (by decide)).trans hcode

@[simp] theorem classOp1_encodeClass (c : InstructionClass) (w : Word) :
    classOp1 (encodeClass c w) = (writtenOp1 c).getD (classOp1 w) := by
  rw [encodeClass_eq]
  cases writtenOp1 c with
  | none => exact extractLsb'_putBits_of_disjoint w 25 (canonicalClassOp c) 4 1 (by decide) (by decide)
  | some b => exact extractLsb'_putBits _ 4 b (by decide)

theorem writtenOp1_eq_none {c : InstructionClass} (h : c ≠ .loadStoreMultiple ∧ c ≠ .media) :
    writtenOp1 c = none := by
  obtain ⟨hmultiple, hmedia⟩ := h
  cases c with
  | loadStoreMultiple => exact absurd rfl hmultiple
  | media => exact absurd rfl hmedia
  | _ => rfl

/-- The frame of the encoder (R154). -/
theorem getLsbD_encodeClass_of_unwritten {c : InstructionClass} {q : Nat} (w : Word) (hop : ¬ (25 ≤ q ∧ q < 25 + 3))
    (hop1 : q = 4 → writtenOp1 c = none) : (encodeClass c w).getLsbD q = w.getLsbD q := by
  have hcode : (putBits w 25 (canonicalClassOp c)).getLsbD q = w.getLsbD q := by
    rw [getLsbD_putBits _ _ _ _ (by decide), if_neg hop]
  rw [encodeClass_eq]
  cases hb : writtenOp1 c with
  | none => exact hcode
  | some b =>
    have hq : ¬ (4 ≤ q ∧ q < 4 + 1) := fun h4 => by simp [hop1 (by omega)] at hb
    exact (getLsbD_putBits _ 4 b q (by decide)).trans ((if_neg hq).trans hcode)

/-- Two writes under masks are one. -/
theorem overlay_overlay (w m v m' v' : Word) :
    (w &&& m ||| v) &&& m' ||| v' = w &&& (m &&& m') ||| (v &&& m' ||| v') := by
  rw [BitVec.and_or_distrib_right, BitVec.and_assoc, BitVec.or_assoc]

/-- Settles O15: a field write is a mask and an overlay, and the two classes that write bit 4 do so twice. -/
theorem encodeClassWritesCanonicalCode : Obligations.EncodeClassWritesCanonicalCode := by
  unfold Obligations.EncodeClassWritesCanonicalCode
  refine ⟨fun w => ⟨BitVec.or_zero, rfl, overlay_overlay w _ _ _ _, overlay_overlay w _ _ _ _, rfl, rfl⟩,
    fun c w q hop hop1 => ?_, rfl⟩
  exact getLsbD_encodeClass_of_unwritten w (by omega) fun h4 => writtenOp1_eq_none (hop1.resolve_left (absurd h4))

/-! ### Round trips (R156) -/

/-- The canonical fields of a class enter its row, unless the policy takes that row's class away. -/
theorem classOfFields_canonical (p : Class11xPolicy) (c : InstructionClass) (op1 : BitVec 1) :
    classOfFields p (canonicalClassOp c) ((writtenOp1 c).getD op1) =
      if p = .reject ∧ c = .supervisorCall then none else some c := by
  cases c with
  | supervisorCall => cases p <;> rfl
  | _ => simp [classOfFields, canonicalClassOp, writtenOp1]

theorem decodeClass_encodeClass (p : Class11xPolicy) (c : InstructionClass) (w : Word) :
    decodeClass p (encodeClass c w) = if p = .reject ∧ c = .supervisorCall then none else some c := by
  rw [decodeClass, classOp_encodeClass, classOp1_encodeClass, classOfFields_canonical]

/-- Bit 4 of a word in a class is what the encoder writes there, if it writes it. -/
theorem op1_of_classOfFields {p : Class11xPolicy} {op : BitVec 3} {op1 : BitVec 1} {c : InstructionClass}
    (h : classOfFields p op op1 = some c) : ∀ b ∈ writtenOp1 c, op1 = b := by
  cases c with
  | loadStoreMultiple | media => revert h op op1; cases p <;> decide
  | _ => nofun

/-- Of the codes of a class, the canonical one is the one listed (R156). -/
theorem eq_canonicalClassOp_iff_mem {p : Class11xPolicy} {op : BitVec 3} {op1 : BitVec 1} {c : InstructionClass}
    (h : classOfFields p op op1 = some c) :
    op = canonicalClassOp c ↔ op ∈ [0b000#3, 0b010#3, 0b011#3, 0b101#3, 0b111#3] := by
  unfold classOfFields at h
  split at h
  case h_4 => split at h <;> cases h <;> decide
  case h_7 h0 h1 h2 h3 h4 h5 =>
    have hop : op = 0b110#3 ∨ op = 0b111#3 := by simp only [imp_false] at *; bv_omega
    cases p with
    | supervisorCall => cases h; obtain rfl | rfl := hop <;> decide
    | reject => cases h
  all_goals cases h; decide

/-- Writing a field changes a word unless the field holds the value already. -/
theorem putBits_eq_self_iff {n lo : Nat} {w : Word} {v : BitVec n} (h : lo + n ≤ 32) :
    putBits w lo v = w ↔ w.extractLsb' lo n = v := by
  constructor
  · intro hw
    rw [← extractLsb'_putBits w lo v h, hw]
  · rintro rfl
    apply BitVec.eq_of_getLsbD_eq
    intro q _
    rw [getLsbD_putBits _ _ _ _ h]
    split
    case isTrue hq =>
      rw [BitVec.getLsbD_extractLsb', Nat.add_sub_cancel' hq.1, decide_eq_true (by omega), Bool.true_and]
    case isFalse => rfl

/-- Bit 4 is written with what stands there, so only the code is left to change. -/
theorem encodeClass_of_decodeClass {p : Class11xPolicy} {c : InstructionClass} {w : Word}
    (h : decodeClass p w = some c) : encodeClass c w = putBits w 25 (canonicalClassOp c) := by
  have hop1 := op1_of_classOfFields h
  rw [encodeClass_eq]
  cases hb : writtenOp1 c with
  | none => rfl
  | some b =>
    refine (putBits_eq_self_iff (by decide)).mpr ?_
    rw [extractLsb'_putBits_of_disjoint _ _ _ _ _ (by decide) (by decide)]
    exact hop1 b hb

/-- Settles O16: the encoder leaves the canonical fields, and a word of the class differs from them in its code only. -/
theorem classRoundTrip : Obligations.ClassRoundTrip := by
  unfold Obligations.ClassRoundTrip
  refine ⟨fun c w => ?_, fun c w => ?_, fun p c w h => ?_⟩
  · exact (decodeClass_encodeClass _ c w).trans (if_neg (by simp))
  · simpa using decodeClass_encodeClass .reject c w
  · have hw := encodeClass_of_decodeClass h
    refine ⟨hw, ?_⟩
    rw [hw, putBits_eq_self_iff (by decide)]
    exact eq_canonicalClassOp_iff_mem h

/-! ### The ports (R155) -/

theorem getLsbD_classOp (w : Word) {i : Nat} (hi : i < 3) : (classOp w).getLsbD i = w.getLsbD (25 + i) := by
  simp [classOp, hi]

theorem isSome_classOfFields (p : Class11xPolicy) : ∀ (op : BitVec 3) (op1 : BitVec 1),
    (classOfFields p op op1).isSome = (!(op.getLsbD 2 && op.getLsbD 1) || p == .supervisorCall) := by
  cases p <;> decide

theorem isSome_decodeClass (p : Class11xPolicy) (w : Word) :
    (decodeClass p w).isSome = (!(w.getLsbD 27 && w.getLsbD 26) || p == .supervisorCall) := by
  rw [decodeClass, isSome_classOfFields, getLsbD_classOp w (by decide), getLsbD_classOp w (by decide)]

/-- The identifier as nested choices on the bits of the code, and zero without a class (R31). -/
theorem id_of_classOfFields (p : Class11xPolicy) : ∀ (op : BitVec 3) (b4 : Bool),
    ((classOfFields p op (BitVec.ofBool b4)).map classId).getD 0 =
      if (classOfFields p op (BitVec.ofBool b4)).isSome then
        if op.getLsbD 2 then (if op.getLsbD 1 then 5#3 else 4#3)
        else if op.getLsbD 1 then (if op.getLsbD 0 then (if b4 then 3#3 else 2#3) else 1#3)
        else 0#3
      else 0#3 := by
  cases p <;> decide

theorem id_of_decodeClass (p : Class11xPolicy) (w : Word) :
    ((decodeClass p w).map classId).getD 0 =
      if (decodeClass p w).isSome then
        if w.getLsbD 27 then (if w.getLsbD 26 then 5#3 else 4#3)
        else if w.getLsbD 26 then (if w.getLsbD 25 then (if w.getLsbD 4 then 3#3 else 2#3) else 1#3)
        else 0#3
      else 0#3 := by
  have hid := id_of_classOfFields p (classOp w) (w.getLsbD 4)
  rwa [← classOp1_eq_ofBool, ← decodeClass, getLsbD_classOp w (by decide), getLsbD_classOp w (by decide),
    getLsbD_classOp w (by decide)] at hid

/-- Settles O17: the three ports are functions of the decoded class, read off the table bit by bit. -/
theorem classSignals : Obligations.ClassSignals := by
  unfold Obligations.ClassSignals
  exact fun p w => ⟨isSome_decodeClass p w, id_of_decodeClass p w, rfl⟩

end Sys2Proof.Classes

/-! ## The DataProcessing sub-form disambiguator (spec/43_dp_subform.md)

A predicate is one test on each part of the key, and the tests are those of the sub-form's encode pattern
(`formPredicate_eq`). So the key counts, the row table and the round trip compare the parts of the key one by one. -/

namespace Sys2Proof.Subforms

open Sys2Proof.Machine Sys2Proof.Decoding Sys2Proof.Ports Sys2Proof.Table

/-! ### A predicate is its encode pattern, less its exclusion (R182 to R193, R197) -/

/-- The digits `11x1` of `dpOp2`, the alternative that an encode pattern leaves out (R188, R189). -/
def secondAlternative (f : DataProcessingForm) (op2 : BitVec 4) : Bool :=
  match f with
  | .extraLoadStore | .extraLoadStoreUnprivileged => hits op2 0b1101#4 0b1101#4
  | _ => false

/-- The test of a sub-form on `dpOp1`. -/
def formOp1 (f : DataProcessingForm) (op1 : BitVec 5) : Bool :=
  hits op1 (dpOp1 (encodeMask f)) (dpOp1 (encodeValue f)) && !formExclusion f op1

/-- The test of a sub-form on `dpOp2`. -/
def formOp2 (f : DataProcessingForm) (op2 : BitVec 4) : Bool :=
  hits op2 (dpOp2 (encodeMask f)) (dpOp2 (encodeValue f)) || secondAlternative f op2

/-- A test whose mask has every digit is an equality; otherwise both sides have the same masks and values. -/
theorem formPredicate_eq (f : DataProcessingForm) (op : BitVec 1) (op1 : BitVec 5) (op2 : BitVec 4) :
    formPredicate f op op1 op2 = (op == dpOp (encodeValue f) && (formOp1 f op1 && formOp2 f op2)) := by
  have hfull1 : op1 &&& 0b11111#5 = op1 := BitVec.and_allOnes
  have hfull2 : op2 &&& 0b1111#4 = op2 := BitVec.and_allOnes
  cases f <;>
    simp [formPredicate, formOp1, formOp2, formExclusion, secondAlternative, encodeMask, encodeValue, dpOp, dpOp1,
      dpOp2, testWithoutS, unprivilegedOp1, extraOp2, hits, Bool.and_assoc, hfull1, hfull2]

theorem formPredicate_iff (f : DataProcessingForm) (op : BitVec 1) (op1 : BitVec 5) (op2 : BitVec 4) :
    formPredicate f op op1 op2 = true ↔
      op = dpOp (encodeValue f) ∧ formOp1 f op1 = true ∧ formOp2 f op2 = true := by
  rw [formPredicate_eq, Bool.and_eq_true, Bool.and_eq_true, beq_iff_eq]

theorem mem_allForms (f : DataProcessingForm) : f ∈ allForms := by
  cases f <;> decide

/-! ### The rows of the table (R194) -/

theorem rows_slices : ∀ r ∈ subformRows, (InKey r.mask ∧ InKey r.value) ∧ classOp r.mask = 0b111#3 ∧
    classOp r.value = 0b00#2 ++ dpOp (encodeValue r.form) := by
  decide

theorem row_matches_iff {r : SubformRow} (hr : r ∈ subformRows) (w : Word) : w &&& r.mask = r.value ↔
    (classGate w = 0b00#2 ∧ dpOp w = dpOp (encodeValue r.form)) ∧
      hits (dpOp1 w) (dpOp1 r.mask) (dpOp1 r.value) = true ∧
      hits (dpOp2 w) (dpOp2 r.mask) (dpOp2 r.value) = true := by
  obtain ⟨⟨hm, hv⟩, hopm, hopv⟩ := rows_slices r hr
  rw [and_eq_iff_hits hm hv, hopm, hopv, ← classGate_append_dpOp, hits_classOp]

/-- The rows of one sub-form. -/
def formRows (f : DataProcessingForm) : List SubformRow := subformRows.filter fun r => r.form == f

theorem mem_formRows {f : DataProcessingForm} {r : SubformRow} : r ∈ formRows f ↔ r ∈ subformRows ∧ r.form = f := by
  rw [formRows, List.mem_filter, beq_iff_eq]

/-- On one part of the key a sub-form tests what one of its rows tests. -/
theorem formOp1_eq_any_row : ∀ f ∈ allForms, ∀ op1 : BitVec 5,
    formOp1 f op1 = (formRows f).any fun r => hits op1 (dpOp1 r.mask) (dpOp1 r.value) := by
  decide

theorem formOp2_eq_any_row : ∀ f ∈ allForms, ∀ op2 : BitVec 4,
    formOp2 f op2 = (formRows f).any fun r => hits op2 (dpOp2 r.mask) (dpOp2 r.value) := by
  decide

/-- The rows of one sub-form are a grid: each pattern on `dpOp1` stands beside each pattern on `dpOp2`. -/
theorem formRows_grid : ∀ f ∈ allForms, ∀ a ∈ formRows f, ∀ b ∈ formRows f, ∃ r ∈ formRows f,
    (dpOp1 r.mask = dpOp1 a.mask ∧ dpOp1 r.value = dpOp1 a.value) ∧
      dpOp2 r.mask = dpOp2 b.mask ∧ dpOp2 r.value = dpOp2 b.value := by
  decide

theorem tests_iff_row (f : DataProcessingForm) (op1 : BitVec 5) (op2 : BitVec 4) :
    formOp1 f op1 = true ∧ formOp2 f op2 = true ↔ ∃ r ∈ formRows f,
      hits op1 (dpOp1 r.mask) (dpOp1 r.value) = true ∧ hits op2 (dpOp2 r.mask) (dpOp2 r.value) = true := by
  rw [formOp1_eq_any_row f (mem_allForms f), formOp2_eq_any_row f (mem_allForms f), List.any_eq_true, List.any_eq_true]
  constructor
  · rintro ⟨⟨a, ha, hit1⟩, b, hb, hit2⟩
    obtain ⟨r, hr, ⟨hm1, hv1⟩, hm2, hv2⟩ := formRows_grid f (mem_allForms f) a ha b hb
    rw [← hm1, ← hv1] at hit1
    rw [← hm2, ← hv2] at hit2
    exact ⟨r, hr, hit1, hit2⟩
  · rintro ⟨r, hr, hit1, hit2⟩
    exact ⟨⟨r, hr, hit1⟩, r, hr, hit2⟩

/-- The disambiguator and the table answer the same sub-form. -/
theorem decodeSubform_eq_some_iff_row {w : Word} {f : DataProcessingForm} : decodeSubform w = some f ↔
    ∃ r ∈ formRows f, w &&& r.mask = r.value := by
  rw [decodeSubform_eq_some, formPredicate_iff, tests_iff_row]
  constructor
  · rintro ⟨hgate, hop, r, hr, hkey⟩
    obtain ⟨hmem, rfl⟩ := mem_formRows.mp hr
    exact ⟨r, hr, (row_matches_iff hmem w).mpr ⟨⟨hgate, hop⟩, hkey⟩⟩
  · rintro ⟨r, hr, hw⟩
    obtain ⟨hmem, rfl⟩ := mem_formRows.mp hr
    obtain ⟨⟨hgate, hop⟩, hkey⟩ := (row_matches_iff hmem w).mp hw
    exact ⟨hgate, hop, r, hr, hkey⟩

theorem decodeSubform_eq_find?_rows (w : Word) :
    decodeSubform w = (subformRows.find? fun r => w &&& r.mask == r.value).map (·.form) := by
  cases hfind : subformRows.find? fun r => w &&& r.mask == r.value with
  | some r =>
    have hw : w &&& r.mask = r.value := by simpa using List.find?_some hfind
    exact decodeSubform_eq_some_iff_row.mpr ⟨r, mem_formRows.mpr ⟨List.mem_of_find?_eq_some hfind, rfl⟩, hw⟩
  | none =>
    refine Option.eq_none_iff_forall_ne_some.mpr fun f hf => ?_
    obtain ⟨r, hr, hw⟩ := decodeSubform_eq_some_iff_row.mp hf
    exact List.find?_eq_none.mp hfind r (mem_formRows.mp hr).1 (beq_iff_eq.mpr hw)

/-- Two rows ask for different values of a bit that both of them test. -/
theorem subformRows_pairwise_conflict : subformRows.Pairwise fun a b => a.value &&& b.mask ≠ b.value &&& a.mask := by
  decide

theorem subformRows_pairwise_disjoint :
    subformRows.Pairwise fun a b => ∀ w : Word, ¬ (w &&& a.mask = a.value ∧ w &&& b.mask = b.value) := by
  refine subformRows_pairwise_conflict.imp fun hne w ⟨ha, hb⟩ => hne ?_
  rw [← ha, ← hb, BitVec.and_assoc, BitVec.and_assoc, BitVec.and_comm (SubformRow.mask _)]

theorem decodeSubform_eq_none {w : Word} : decodeSubform w = none ↔ classGate w ≠ 0b00#2 := by
  rw [← not_iff_not, ← Ne, ← Option.isSome_iff_ne_none, isSome_decodeSubform, not_not]

/-- Settles O19: a row and a predicate test the same bits, and the ports are functions of the decoded sub-form. -/
theorem subformDecodeIsTheRowTable : Obligations.SubformDecodeIsTheRowTable := by
  unfold Obligations.SubformDecodeIsTheRowTable
  refine ⟨fun w => decodeSubform_eq_none.mpr, decodeSubform_eq_find?_rows, subformRows_pairwise_disjoint,
    fun _ => rfl, fun p w => ⟨rfl, ?_⟩, rfl, rfl, rfl⟩
  change ((decodeSubform w).map formId).getD 0 = _
  cases decodeSubform w <;> rfl

/-! ### Counting keys (R196) -/

/-- The keys numbered `i * n + j` that pass one test on `i` and one on `j`. -/
theorem countP_range_mul (p q : Nat → Bool) (m n : Nat) :
    (List.range (m * n)).countP (fun k => p (k / n) && q (k % n)) =
      (List.range m).countP p * (List.range n).countP q := by
  induction m with
  | zero => simp
  | succ m ih =>
    have hblock : (List.range n).countP (fun j => p ((m * n + j) / n) && q ((m * n + j) % n)) =
        (List.range n).countP (fun j => p m && q j) := by
      refine List.countP_congr fun j hj => ?_
      have hj : j < n := List.mem_range.mp hj
      rw [Nat.mul_comm m n, Nat.mul_add_div (by omega), Nat.div_eq_of_lt hj, Nat.mul_add_mod, Nat.mod_eq_of_lt hj,
        Nat.add_zero]
    rw [Nat.succ_mul, List.range_add, List.countP_append, List.countP_map, ih, List.range_succ, List.countP_append,
      Nat.add_mul]
    congr 1
    refine hblock.trans ?_
    cases hp : p m <;> simp [hp]

/-- The number of keys a sub-form matches: `dpOp` is fixed, and the tests on `dpOp1` and `dpOp2` are independent. -/
def keyCount (f : DataProcessingForm) : Nat :=
  ((List.range 32).countP fun i => formOp1 f (BitVec.ofNat 5 i)) *
    (List.range 16).countP fun j => formOp2 f (BitVec.ofNat 4 j)

theorem countP_dpOp : ∀ op : BitVec 1, (List.range 2).countP (fun i => BitVec.ofNat 1 i == op) = 1 := by
  decide

theorem countP_formPredicate (f : DataProcessingForm) : ((List.range 1024).countP fun k =>
    formPredicate f (BitVec.ofNat 1 (k / 512)) (BitVec.ofNat 5 (k / 16 % 32)) (BitVec.ofNat 4 (k % 16))) =
      keyCount f := by
  have hlow : ((List.range 512).countP fun k =>
      formOp1 f (BitVec.ofNat 5 (k / 16)) && formOp2 f (BitVec.ofNat 4 (k % 16))) = keyCount f :=
    countP_range_mul (fun i => formOp1 f (BitVec.ofNat 5 i)) (fun j => formOp2 f (BitVec.ofNat 4 j)) 32 16
  have hkey := countP_range_mul (fun i => BitVec.ofNat 1 i == dpOp (encodeValue f))
    (fun k => formOp1 f (BitVec.ofNat 5 (k / 16)) && formOp2 f (BitVec.ofNat 4 (k % 16))) 2 512
  rw [countP_dpOp, Nat.one_mul, hlow] at hkey
  rw [← hkey]
  refine List.countP_congr fun k _ => ?_
  have hop1 : k % 512 / 16 = k / 16 % 32 := by omega
  have hop2 : k % 512 % 16 = k % 16 := by omega
  rw [formPredicate_eq, hop1, hop2]

theorem map_keyCount_allForms : allForms.map keyCount =
    [28 * 8, 28 * 4, 4 * 8, 4 * 4, 16 * 1, 16 * 1, 24 * 3, 8 * 3, 28 * 16, 1 * 16, 1 * 16, 2 * 16] := by
  decide

/-- Settles O20: the list of matching sub-forms has one entry in the gate, and a key count is a product. -/
theorem subformExactlyOnePredicate : Obligations.SubformExactlyOnePredicate := by
  unfold Obligations.SubformExactlyOnePredicate
  refine ⟨fun w hgate => ?_, ?_⟩
  · have hlen : (matchingForms w).length = 1 := (length_matchingForms w).trans (if_pos hgate)
    obtain ⟨f, hf⟩ := List.length_eq_one_iff.mp hlen
    have hdecode : decodeSubform w = some f := by rw [decodeSubform, hf, List.head?_cons]
    refine ⟨f, hf, hdecode, fun g => ?_⟩
    have hg : decodeSubform w = some g ↔ formPredicate g (dpOp w) (dpOp1 w) (dpOp2 w) = true :=
      decodeSubform_eq_some.trans (and_iff_right hgate)
    rw [← hg, hdecode, Option.some_inj, eq_comm]
  · simp only [countP_formPredicate]
    exact map_keyCount_allForms

/-! ### The conflict and error outputs (R195, R200) -/

theorem length_matchingForms_eq_countP {w : Word} (hgate : classGate w = 0b00#2) :
    (matchingForms w).length = allForms.countP fun f => formPredicate f (dpOp w) (dpOp1 w) (dpOp2 w) := by
  rw [matchingForms, if_pos hgate, formsOfKey, List.countP_eq_length_filter]

theorem subformConflict_iff (w : Word) : subformConflict w = true ↔ classGate w = 0b00#2 ∧
    2 ≤ allForms.countP fun f => formPredicate f (dpOp w) (dpOp1 w) (dpOp2 w) := by
  rw [subformConflict, decide_eq_true_iff]
  by_cases hgate : classGate w = 0b00#2
  · rw [length_matchingForms_eq_countP hgate, and_iff_right hgate, Nat.lt_iff_add_one_le]
  · simp [matchingForms, hgate]

theorem decodeSubform_eq_find? (w : Word) : decodeSubform w = if classGate w = 0b00#2 then
    allForms.find? fun f => formPredicate f (dpOp w) (dpOp1 w) (dpOp2 w) else none := by
  rw [decodeSubform, matchingForms, apply_ite List.head?, formsOfKey, List.head?_filter, List.head?_nil]

/-- Settles O21: the outputs are read off the list of matching sub-forms, one entry in the gate and none outside. -/
theorem subformConflictReport : Obligations.SubformConflictReport := by
  unfold Obligations.SubformConflictReport
  intro p w
  obtain ⟨_, _, herr, hconflict⟩ := errorsAgree_drivenOutputs (decodeCondition w) (decodeClass p w)
    (decodeInstruction p w) (isSome_decodeSubform w).mpr
  exact ⟨subformConflict_iff w, decodeSubform_eq_find? w, hconflict, rfl, herr⟩

/-! ### The encoder writes its pattern (R197) -/

theorem encodeValue_and_encodeMask (f : DataProcessingForm) : encodeValue f &&& encodeMask f = encodeValue f := by
  cases f <;> rfl

theorem encodeValue_and_not_encodeMask (f : DataProcessingForm) : encodeValue f &&& ~~~encodeMask f = 0#32 := by
  cases f <;> rfl

theorem encodeSubform_and_encodeMask (f : DataProcessingForm) (w : Word) :
    encodeSubform f w &&& encodeMask f = encodeValue f := by
  have hcleared : ~~~encodeMask f &&& encodeMask f = 0#32 :=
    (BitVec.and_comm _ _).trans (BitVec.and_not_self _)
  rw [encodeSubform, BitVec.and_or_distrib_right, BitVec.and_assoc, hcleared, encodeValue_and_encodeMask,
    BitVec.and_zero, BitVec.zero_or]

/-- The frame of the encoder (R198). -/
theorem encodeSubform_and_not_encodeMask (f : DataProcessingForm) (w : Word) :
    encodeSubform f w &&& ~~~encodeMask f = w &&& ~~~encodeMask f := by
  rw [encodeSubform, BitVec.and_or_distrib_right, BitVec.and_assoc, BitVec.and_self,
    encodeValue_and_not_encodeMask, BitVec.or_zero]

/-- No sub-form writes the class gate. -/
@[simp] theorem classGate_encodeSubform (f : DataProcessingForm) (w : Word) :
    classGate (encodeSubform f w) = classGate w := by
  have hkept : classGate (~~~encodeMask f) = 0b11#2 := by cases f <;> rfl
  have hand (a b : Word) : classGate (a &&& b) = classGate a &&& classGate b := BitVec.extractLsb'_and
  have hframe := congrArg classGate (encodeSubform_and_not_encodeMask f w)
  rw [hand, hand, hkept] at hframe
  exact BitVec.and_allOnes.symm.trans (hframe.trans BitVec.and_allOnes)

/-! ### Round trips (R198) -/

theorem hits_extractLsb' {w m v : Word} (h : w &&& m = v) (lo n : Nat) :
    hits (w.extractLsb' lo n) (m.extractLsb' lo n) (v.extractLsb' lo n) = true := by
  rw [hits, beq_iff_eq, ← BitVec.extractLsb'_and, h]

/-- After an encode only the exclusion is left to test. -/
theorem formPredicate_encodeSubform (f : DataProcessingForm) (w : Word) :
    formPredicate f (dpOp (encodeSubform f w)) (dpOp1 (encodeSubform f w)) (dpOp2 (encodeSubform f w)) =
      !formExclusion f (dpOp1 (encodeSubform f w)) := by
  have hkey := hits_extractLsb' (encodeSubform_and_encodeMask f w)
  have hopMask : dpOp (encodeMask f) = BitVec.allOnes 1 := by cases f <;> rfl
  have hop : dpOp (encodeSubform f w) &&& dpOp (encodeMask f) = dpOp (encodeValue f) := beq_iff_eq.mp (hkey 25 1)
  have hop1 : hits (dpOp1 (encodeSubform f w)) (dpOp1 (encodeMask f)) (dpOp1 (encodeValue f)) = true := hkey 20 5
  have hop2 : hits (dpOp2 (encodeSubform f w)) (dpOp2 (encodeMask f)) (dpOp2 (encodeValue f)) = true := hkey 4 4
  rw [hopMask, BitVec.and_allOnes] at hop
  rw [formPredicate_eq, hop, formOp1, hop1, formOp2, hop2]
  simp

theorem decodeSubform_encodeSubform (f : DataProcessingForm) (w : Word) :
    decodeSubform (encodeSubform f w) = some f ↔
      classGate w = 0b00#2 ∧ formExclusion f (dpOp1 (encodeSubform f w)) = false := by
  rw [decodeSubform_eq_some, classGate_encodeSubform, formPredicate_encodeSubform, Bool.not_eq_true']

/-- The words of the gate all have a sub-form, so one that is not `f`'s has another. -/
theorem exists_ne_of_exclusion {f : DataProcessingForm} {w : Word} (hgate : classGate w = 0b00#2)
    (hexcl : formExclusion f (dpOp1 (encodeSubform f w)) = true) :
    ∃ g, g ≠ f ∧ decodeSubform (encodeSubform f w) = some g := by
  have hsome := (isSome_decodeSubform (encodeSubform f w)).mpr ((classGate_encodeSubform f w).trans hgate)
  obtain ⟨g, hg⟩ := Option.isSome_iff_exists.mp hsome
  refine ⟨g, ?_, hg⟩
  rintro rfl
  have hno := ((decodeSubform_encodeSubform g w).mp hg).2
  rw [hexcl] at hno
  cases hno

/-- A word-level pattern with digits in bits 24:20 only is a test of `dpOp1`. -/
theorem hits_dpOp1_iff {m v : Word} (hm : InKey m ∧ classOp m = 0 ∧ dpOp2 m = 0)
    (hv : InKey v ∧ classOp v = 0 ∧ dpOp2 v = 0) (w : Word) :
    hits (dpOp1 w) (dpOp1 m) (dpOp1 v) = true ↔ w &&& m = v := by
  obtain ⟨hmkey, hmop, hmop2⟩ := hm
  obtain ⟨hvkey, hvop, hvop2⟩ := hv
  simp only [and_eq_iff_hits hmkey hvkey, hmop, hvop, hmop2, hvop2, hits_zero, true_and, and_true]

theorem testWithoutS_iff (w : Word) : testWithoutS (dpOp1 w) = true ↔ w &&& 0x01900000 = 0x01000000 :=
  hits_dpOp1_iff (m := 0x01900000) (v := 0x01000000) (by decide) (by decide) w

theorem unprivilegedOp1_iff (w : Word) : unprivilegedOp1 (dpOp1 w) = true ↔ w &&& 0x01200000 = 0x00200000 :=
  hits_dpOp1_iff (m := 0x01200000) (v := 0x00200000) (by decide) (by decide) w

/-- Settles O22: the encoder meets its pattern, so the result has `f`'s predicate unless it is in `f`'s exclusion. -/
theorem subformEncodeOverlayAndRoundTrip : Obligations.SubformEncodeOverlayAndRoundTrip := by
  unfold Obligations.SubformEncodeOverlayAndRoundTrip
  refine ⟨fun _ _ => rfl, rfl, rfl, encodeSubform_and_not_encodeMask, fun f w => ?_, fun f w hgate hexcl => ?_,
    rfl, rfl⟩
  · refine (decodeSubform_encodeSubform f w).trans (and_congr_right' ?_)
    rw [← Bool.not_eq_true]
    cases f with
    | dataProcessingRegister | dataProcessingRegisterShifted | dataProcessingImmediate =>
      exact (testWithoutS_iff _).not
    | extraLoadStore => exact (unprivilegedOp1_iff _).not
    | _ => exact iff_of_true Bool.false_ne_true trivial
  · refine exists_ne_of_exclusion hgate ?_
    cases f with
    | dataProcessingRegister | dataProcessingRegisterShifted | dataProcessingImmediate =>
      exact (testWithoutS_iff _).mpr hexcl
    | extraLoadStore => exact (unprivilegedOp1_iff _).mpr hexcl
    | _ => exact hexcl.elim

end Sys2Proof.Subforms

/-! ## Words of the spec's tables (spec/95_test_vectors.md, tables V-M1 and V-S1) -/

namespace Sys2Proof.Vectors

open Sys2Proof.Machine

/-- Settles O41, by evaluating the decoder on the seven words. -/
theorem decodedWordsFromTheSpec : Obligations.DecodedWordsFromTheSpec :=
  ⟨rfl, rfl, rfl, rfl, rfl, rfl, rfl⟩

end Sys2Proof.Vectors

/-! ## The Mnemonic resolver (spec/44_mnemonic.md)

Decoding: every answer of the tree is one `ResolverCase`, with what the stages before it found. Encoding: every
mnemonic is written as the mask and value of its row of the opcode table, beside a mask and value for the bits its row
leaves free (`WritesRow`). So an encoded word matches its row and decodes back, and encoding changes a word only in
those free bits. -/

namespace Sys2Proof.Mnemonics

open Sys2Proof.Machine Sys2Proof.Decoding Sys2Proof.Ports Sys2Proof.Table Sys2Proof.Conditions Sys2Proof.Classes
open Sys2Proof.Subforms Sys2Proof.Identifiers

/-! ### The class of a word by its gate (R151) -/

/-- A field of one bit is that bit. -/
theorem extractLsb'_one_eq_ofBool (w : Word) (i : Nat) : w.extractLsb' i 1 = BitVec.ofBool (w.getLsbD i) := by
  apply BitVec.eq_of_getLsbD_eq
  intro j hj
  obtain rfl : j = 0 := by omega
  simp

theorem decodeClass_eq_dataProcessing {p : Class11xPolicy} {w : Word} :
    decodeClass p w = some .dataProcessing ↔ classGate w = 0b00#2 := by
  have htable : ∀ (g : BitVec 2) (op op1 : BitVec 1),
      classOfFields p (g ++ op) op1 = some .dataProcessing ↔ g = 0b00#2 := by
    cases p <;> decide
  rw [decodeClass, ← classGate_append_dpOp, htable]

theorem decodeClass_eq_branch {p : Class11xPolicy} {w : Word} :
    decodeClass p w = some .branch ↔ classGate w = 0b10#2 := by
  have htable : ∀ (g : BitVec 2) (op op1 : BitVec 1),
      classOfFields p (g ++ op) op1 = some .branch ↔ g = 0b10#2 := by
    cases p <;> decide
  rw [decodeClass, ← classGate_append_dpOp, htable]

theorem decodeClass_eq_supervisorCall {p : Class11xPolicy} {w : Word} :
    decodeClass p w = some .supervisorCall ↔ p = .supervisorCall ∧ classGate w = 0b11#2 := by
  have htable : ∀ (g : BitVec 2) (op op1 : BitVec 1),
      classOfFields p (g ++ op) op1 = some .supervisorCall ↔ p = .supervisorCall ∧ g = 0b11#2 := by
    cases p <;> decide
  rw [decodeClass, ← classGate_append_dpOp, htable]

theorem decodeClass_eq_loadStoreMultiple {p : Class11xPolicy} {w : Word} :
    decodeClass p w = some .loadStoreMultiple ↔ classOp w = 0b011#3 ∧ classOp1 w = 0#1 := by
  have htable : ∀ (op : BitVec 3) (op1 : BitVec 1),
      classOfFields p op op1 = some .loadStoreMultiple ↔ op = 0b011#3 ∧ op1 = 0#1 := by
    cases p <;> decide
  exact htable _ _

theorem decodeClass_eq_media {p : Class11xPolicy} {w : Word} :
    decodeClass p w = some .media ↔ classOp w = 0b011#3 ∧ classOp1 w = 1#1 := by
  have htable : ∀ (op : BitVec 3) (op1 : BitVec 1),
      classOfFields p op op1 = some .media ↔ op = 0b011#3 ∧ op1 = 1#1 := by
    cases p <;> decide
  exact htable _ _

/-! ### The answers of the tree (R221) -/

section
variable {p : Class11xPolicy} {w : Word}

theorem decodeInstruction_of_form {f : DataProcessingForm} (hc : (decodeCondition w).isSome = true)
    (hs : decodeSubform w = some f) :
    decodeInstruction p w = if isResolvedForm f then dpMnemonic (dpOpcode w) else .undefined w := by
  obtain ⟨c, hc⟩ := Option.isSome_iff_exists.mp hc
  have hclass := decodeClass_of_gate p (decodeSubform_eq_some.mp hs).1
  simp [decodeInstruction, hc, hclass, hs]

theorem decodeInstruction_of_loadStore (hc : (decodeCondition w).isSome = true)
    (hclass : decodeClass p w = some .loadStore) : decodeInstruction p w = lsMnemonic (bit20 w) (bit22 w) := by
  obtain ⟨c, hc⟩ := Option.isSome_iff_exists.mp hc
  simp [decodeInstruction, hc, hclass]

theorem decodeInstruction_of_branch (hc : (decodeCondition w).isSome = true)
    (hclass : decodeClass p w = some .branch) : decodeInstruction p w = branchMnemonic (bit24 w) := by
  obtain ⟨c, hc⟩ := Option.isSome_iff_exists.mp hc
  simp [decodeInstruction, hc, hclass, branchMnemonic]

theorem decodeInstruction_of_supervisorCall (hc : (decodeCondition w).isSome = true)
    (hclass : decodeClass p w = some .supervisorCall) : decodeInstruction p w = .swi (imm24 w) := by
  obtain ⟨c, hc⟩ := Option.isSome_iff_exists.mp hc
  simp [decodeInstruction, hc, hclass]

/-- The three answers of the class stage that have no mnemonic (R227). -/
theorem decodeInstruction_of_unresolved_class
    (hclass : decodeClass p w = none ∨ decodeClass p w = some .loadStoreMultiple ∨ decodeClass p w = some .media) :
    decodeInstruction p w = .undefined w := by
  cases hc : decodeCondition w with
  | none => exact decodeInstruction_of_no_condition p hc
  | some c => rcases hclass with hclass | hclass | hclass <;> simp [decodeInstruction, hc, hclass]

end

/-- What the tree answers for a word, with what the stages before found. -/
inductive ResolverCase (p : Class11xPolicy) (w : Word) : Mnemonic → Prop
  | noCondition (hc : decodeCondition w = none) : ResolverCase p w (.undefined w)
  | unresolvedClass
      (hclass : decodeClass p w = none ∨ decodeClass p w = some .loadStoreMultiple ∨ decodeClass p w = some .media) :
      ResolverCase p w (.undefined w)
  | unresolvedForm {f : DataProcessingForm} (hs : decodeSubform w = some f) (hf : isResolvedForm f = false) :
      ResolverCase p w (.undefined w)
  | dataProcessing {f : DataProcessingForm} (hc : (decodeCondition w).isSome = true) (hs : decodeSubform w = some f)
      (hf : isResolvedForm f = true) : ResolverCase p w (dpMnemonic (dpOpcode w))
  | loadStore (hc : (decodeCondition w).isSome = true) (hclass : decodeClass p w = some .loadStore) :
      ResolverCase p w (lsMnemonic (bit20 w) (bit22 w))
  | branch (hc : (decodeCondition w).isSome = true) (hclass : decodeClass p w = some .branch) :
      ResolverCase p w (branchMnemonic (bit24 w))
  | swi (hc : (decodeCondition w).isSome = true) (hclass : decodeClass p w = some .supervisorCall) :
      ResolverCase p w (.swi (imm24 w))

theorem decodeInstruction_case (p : Class11xPolicy) (w : Word) : ResolverCase p w (decodeInstruction p w) := by
  by_cases hc : (decodeCondition w).isSome = true
  case neg =>
    have hc : decodeCondition w = none := by simpa using hc
    rw [decodeInstruction_of_no_condition p hc]
    exact .noCondition hc
  cases hclass : decodeClass p w with
  | none => exact decodeInstruction_of_unresolved_class (.inl hclass) ▸ .unresolvedClass (.inl hclass)
  | some k =>
    cases k with
    | dataProcessing =>
      have hgate := decodeClass_eq_dataProcessing.mp hclass
      obtain ⟨f, hs⟩ := Option.isSome_iff_exists.mp ((isSome_decodeSubform w).mpr hgate)
      rw [decodeInstruction_of_form hc hs]
      cases hf : isResolvedForm f with
      | true => exact .dataProcessing hc hs hf
      | false => exact .unresolvedForm hs hf
    | loadStore => exact decodeInstruction_of_loadStore hc hclass ▸ .loadStore hc hclass
    | branch => exact decodeInstruction_of_branch hc hclass ▸ .branch hc hclass
    | supervisorCall => exact decodeInstruction_of_supervisorCall hc hclass ▸ .swi hc hclass
    | loadStoreMultiple | media =>
      rw [decodeInstruction_of_unresolved_class (by simp [hclass])]
      exact .unresolvedClass (by simp [hclass])

/-! ### The mnemonics of a family and their identifiers (R29, R223, R224, R225) -/

theorem toNat_mnemonicId_dpMnemonic : ∀ k : BitVec 4, (mnemonicId (dpMnemonic k)).toNat = k.toNat := by
  decide

theorem toNat_mnemonicId_lsMnemonic : ∀ l b : Bool,
    (mnemonicId (lsMnemonic (BitVec.ofBool l) (BitVec.ofBool b))).toNat = 16 + (1 - l.toNat) + 2 * b.toNat := by
  decide

theorem toNat_mnemonicId_branchMnemonic : ∀ link : Bool,
    (mnemonicId (branchMnemonic (BitVec.ofBool link))).toNat = 20 + link.toNat := by
  decide

/-- Only `Swi` and `Undefined` carry data, and the identifiers tell them from the rest (R220). -/
abbrev CarriesNothing (m : Mnemonic) : Prop := mnemonicId m ≠ 22 ∧ mnemonicId m ≠ 23

theorem dpMnemonic_carriesNothing : ∀ k : BitVec 4, CarriesNothing (dpMnemonic k) := by
  decide

theorem lsMnemonic_carriesNothing : ∀ l b : BitVec 1, CarriesNothing (lsMnemonic l b) := by
  decide

theorem branchMnemonic_carriesNothing : ∀ link : BitVec 1, CarriesNothing (branchMnemonic link) := by
  decide

theorem CarriesNothing.ne_undefined {m : Mnemonic} (h : CarriesNothing m) (u : Word) : m ≠ .undefined u := by
  rintro rfl
  exact h.2 rfl

/-! ### Decoding (R223 to R227) -/

theorem isSome_decodeCondition_iff {w : Word} :
    (decodeCondition w).isSome = true ↔ w.extractLsb 31 28 ≠ 0b1111#4 := by
  rw [Option.isSome_iff_ne_none, Ne, decodeCondition_eq_none]

theorem isResolvedForm_iff (f : DataProcessingForm) : isResolvedForm f = true ↔
    f = .dataProcessingRegister ∨ f = .dataProcessingRegisterShifted ∨ f = .dataProcessingImmediate := by
  cases f <;> decide

theorem isResolvedForm_eq_false_iff (f : DataProcessingForm) : isResolvedForm f = false ↔
    f ≠ .dataProcessingRegister ∧ f ≠ .dataProcessingRegisterShifted ∧ f ≠ .dataProcessingImmediate := by
  cases f <;> decide

/-- Settles O23: the tree enters the opcode table for the resolved forms only. -/
theorem dataProcessingOpcodeTable : Obligations.DataProcessingOpcodeTable := by
  unfold Obligations.DataProcessingOpcodeTable
  intro p w f hw hs
  have htable : ∀ k : BitVec 4, [Mnemonic.and, .eor, .sub, .rsb, .add, .adc, .sbc, .rsc, .tst, .teq, .cmp, .cmn, .orr,
      .mov, .bic, .mvn][k.toNat]? = some (dpMnemonic k) := by decide
  rw [decodeInstruction_of_form (isSome_decodeCondition_iff.mpr hw) hs]
  split
  case isTrue hf =>
    rw [if_pos ((isResolvedForm_iff f).mpr hf)]
    exact htable (dpOpcode w)
  case isFalse hf => rw [if_neg (mt (isResolvedForm_iff f).mp hf)]

/-- Settles O25: the class bits choose the branch of the tree, and its answer is read off the bits named. -/
theorem loadStoreBranchSwiResolution : Obligations.LoadStoreBranchSwiResolution := by
  unfold Obligations.LoadStoreBranchSwiResolution
  intro p w hw
  have hc := isSome_decodeCondition_iff.mpr hw
  refine ⟨fun hop => ?_, fun hg => ?_, fun hg => ?_⟩
  · have hclass : decodeClass p w = some .loadStore := decodeClass_of_classOp p hop
    rw [decodeInstruction_of_loadStore hc hclass, bit20, bit22, extractLsb'_one_eq_ofBool, extractLsb'_one_eq_ofBool]
    cases w.getLsbD 22 <;> cases w.getLsbD 20 <;> rfl
  · rw [decodeInstruction_of_branch hc (decodeClass_eq_branch.mpr hg), bit24, extractLsb'_one_eq_ofBool]
    cases w.getLsbD 24 <;> rfl
  · cases p with
    | supervisorCall => exact decodeInstruction_of_supervisorCall hc (decodeClass_eq_supervisorCall.mpr ⟨rfl, hg⟩)
    | reject => exact decodeInstruction_of_unresolved_class (.inl (decodeClass_eq_none.mpr ⟨rfl, hg⟩))

theorem decodeInstruction_eq_undefined_iff {p : Class11xPolicy} {w u : Word} : decodeInstruction p w = .undefined u ↔
    u = w ∧ (decodeCondition w = none ∨ decodeClass p w = none ∨
      (∃ f, decodeSubform w = some f ∧ isResolvedForm f = false) ∨ decodeClass p w = some .loadStoreMultiple ∨
      decodeClass p w = some .media) := by
  constructor
  · intro h
    have hcase := decodeInstruction_case p w
    rw [h] at hcase
    generalize hm : Mnemonic.undefined u = m at hcase
    cases hcase with
    | noCondition hc => exact ⟨Mnemonic.undefined.inj hm, .inl hc⟩
    | unresolvedClass hclass => exact ⟨Mnemonic.undefined.inj hm, by tauto⟩
    | unresolvedForm hs hf => exact ⟨Mnemonic.undefined.inj hm, .inr (.inr (.inl ⟨_, hs, hf⟩))⟩
    | dataProcessing => exact absurd hm.symm ((dpMnemonic_carriesNothing _).ne_undefined u)
    | loadStore => exact absurd hm.symm ((lsMnemonic_carriesNothing _ _).ne_undefined u)
    | branch => exact absurd hm.symm ((branchMnemonic_carriesNothing _).ne_undefined u)
    | swi => cases hm
  · rintro ⟨rfl, hc | hclass | ⟨f, hs, hf⟩ | hclass | hclass⟩
    · exact decodeInstruction_of_no_condition p hc
    · exact decodeInstruction_of_unresolved_class (.inl hclass)
    · cases hc : decodeCondition u with
      | none => exact decodeInstruction_of_no_condition p hc
      | some c => rw [decodeInstruction_of_form (Option.isSome_of_eq_some hc) hs, hf, if_neg Bool.false_ne_true]
    · exact decodeInstruction_of_unresolved_class (.inr (.inl hclass))
    · exact decodeInstruction_of_unresolved_class (.inr (.inr hclass))

theorem classOp1_eq_one_iff {w : Word} : classOp1 w = 1#1 ↔ w.getLsbD 4 = true := by
  rw [classOp1_eq_ofBool]
  cases w.getLsbD 4 <;> decide

theorem classOp1_eq_zero_iff {w : Word} : classOp1 w = 0#1 ↔ w.getLsbD 4 = false := by
  rw [classOp1_eq_ofBool]
  cases w.getLsbD 4 <;> decide

/-- Settles O26: each stage that finds nothing is one of the five cases, on the bits it reads. -/
theorem undefinedExactlyInFiveCases : Obligations.UndefinedExactlyInFiveCases := by
  unfold Obligations.UndefinedExactlyInFiveCases
  intro p w u
  rw [decodeInstruction_eq_undefined_iff, decodeCondition_eq_none, decodeClass_eq_none,
    decodeClass_eq_loadStoreMultiple, decodeClass_eq_media, classOp1_eq_zero_iff, classOp1_eq_one_iff]
  simp only [isResolvedForm_eq_false_iff]
  rfl

/-- Settles O31: the encoder hands the carried word back, and the tree answers `Undefined` with no other word. -/
theorem undefinedReencodesItsWord : Obligations.UndefinedReencodesItsWord := by
  unfold Obligations.UndefinedReencodesItsWord
  refine ⟨fun _ _ => rfl, fun p u ob => ⟨rfl, fun h => ⟨u, h⟩, ?_⟩, fun p => ?_⟩
  · rintro ⟨v, hv⟩
    obtain ⟨rfl, _⟩ := decodeInstruction_eq_undefined_iff.mp hv
    exact hv
  · cases p <;> decide

/-! ### The ports (R255) -/

/-- The immediate port carries bits 23:0 of the word when the answer is `Swi`. -/
theorem mnemonicImm24_of_case {p : Class11xPolicy} {w : Word} {m : Mnemonic} (h : ResolverCase p w m) :
    mnemonicImm24 m = if mnemonicId m = 22 then imm24 w else 0 := by
  split
  case isFalse hid => exact mnemonicImm24_eq_zero hid
  case isTrue hid =>
    cases h with
    | swi => rfl
    | dataProcessing => exact absurd hid (dpMnemonic_carriesNothing _).1
    | loadStore => exact absurd hid (lsMnemonic_carriesNothing _ _).1
    | branch => exact absurd hid (branchMnemonic_carriesNothing _).1
    | noCondition | unresolvedClass | unresolvedForm => cases hid

/-- The diagnostic port carries the word when the answer is `Undefined`. -/
theorem mnemonicWord_of_case {p : Class11xPolicy} {w : Word} {m : Mnemonic} (h : ResolverCase p w m) :
    mnemonicWord m = if mnemonicId m = 23 then w else 0 := by
  split
  case isFalse hid => exact mnemonicWord_eq_zero hid
  case isTrue hid =>
    cases h with
    | noCondition | unresolvedClass | unresolvedForm => rfl
    | dataProcessing => exact absurd hid (dpMnemonic_carriesNothing _).2
    | loadStore => exact absurd hid (lsMnemonic_carriesNothing _ _).2
    | branch => exact absurd hid (branchMnemonic_carriesNothing _).2
    | swi => cases hid

/-- Settles O32: the identifier is read off each case of the tree, and a payload is that of the answer. -/
theorem mnemonicSignals : Obligations.MnemonicSignals := by
  unfold Obligations.MnemonicSignals
  intro p w
  have hcase := decodeInstruction_case p w
  refine ⟨?_, mnemonicImm24_of_case hcase, mnemonicWord_of_case hcase, rfl⟩
  change (mnemonicId (decodeInstruction p w)).toNat = _
  generalize decodeInstruction p w = m at hcase
  cases hcase with
  | noCondition hc => exact (if_pos (decodeCondition_eq_none.mp hc)).symm
  | unresolvedClass hclass => rcases hclass with h | h | h <;> rw [h] <;> exact (ite_self _).symm
  | unresolvedForm hs hf =>
    rw [decodeClass_of_gate p (decodeSubform_eq_some.mp hs).1, hs]
    simp only [Option.some_inj, ← isResolvedForm_iff, hf, Bool.false_eq_true, if_false, ite_self]
    rfl
  | dataProcessing hc hs hf =>
    rw [if_neg (isSome_decodeCondition_iff.mp hc), decodeClass_of_gate p (decodeSubform_eq_some.mp hs).1, hs]
    simp only [Option.some_inj, ← isResolvedForm_iff, hf, if_true]
    exact toNat_mnemonicId_dpMnemonic (dpOpcode w)
  | loadStore hc hclass =>
    rw [if_neg (isSome_decodeCondition_iff.mp hc), hclass, bit20, bit22, extractLsb'_one_eq_ofBool,
      extractLsb'_one_eq_ofBool]
    exact toNat_mnemonicId_lsMnemonic _ _
  | branch hc hclass =>
    rw [if_neg (isSome_decodeCondition_iff.mp hc), hclass, bit24, extractLsb'_one_eq_ofBool]
    exact toNat_mnemonicId_branchMnemonic _
  | swi hc hclass =>
    rw [if_neg (isSome_decodeCondition_iff.mp hc), hclass]
    rfl

/-! ### Overlays: a value written under a mask -/

/-- Bits that the value sets may as well be kept as cleared. -/
theorem overlay_absorb {b v : Word} (h : v ||| b = v) (w m : Word) : w &&& ~~~(m ||| b) ||| v = w &&& ~~~m ||| v := by
  apply BitVec.eq_of_getLsbD_eq
  intro i hi
  have hbit : (v.getLsbD i || b.getLsbD i) = v.getLsbD i := by rw [← BitVec.getLsbD_or, h]
  simp only [BitVec.getLsbD_or, BitVec.getLsbD_and, BitVec.getLsbD_not, hi, decide_true, Bool.true_and]
  cases hb : b.getLsbD i with
  | false => rw [Bool.or_false]
  | true =>
    have hv : v.getLsbD i = true := by rw [← hbit, hb, Bool.or_true]
    rw [hv, Bool.or_true, Bool.or_true]

/-- Reading an overlay back under a mask it covers. -/
theorem overlay_and {m m' : Word} (h : m &&& m' = m') (w v : Word) : (w &&& ~~~m ||| v) &&& m' = v &&& m' := by
  have hcleared : ~~~m &&& m' = 0#32 := by
    rw [← h, ← BitVec.and_assoc, BitVec.and_comm (~~~m), BitVec.and_not_self]
    exact BitVec.zero_and
  rw [BitVec.and_or_distrib_right, BitVec.and_assoc, hcleared, BitVec.and_zero, BitVec.zero_or]

/-- An overlay changes a word unless the value stands there already. -/
theorem overlay_eq_self_iff {m v : Word} (hv : v &&& m = v) (w : Word) : w &&& ~~~m ||| v = w ↔ w &&& m = v := by
  constructor
  · intro h
    rw [← h, overlay_and (BitVec.and_self), hv]
  · rintro rfl
    rw [← BitVec.and_or_distrib_left, BitVec.or_comm, BitVec.or_not_self, BitVec.and_allOnes]

theorem or_and_absorb (x y : Word) : x ||| x &&& y = x := by
  apply BitVec.eq_of_getLsbD_eq
  simp +contextual

/-- Values under their masks stay under the wider mask. -/
theorem or_and_or_of_and {m v m' v' : Word} (hv : v &&& m = v) (hv' : v' &&& m' = v') :
    (v ||| v') &&& (m ||| m') = v ||| v' := by
  rw [BitVec.and_or_distrib_right, BitVec.and_or_distrib_left, BitVec.and_or_distrib_left, hv, hv', or_and_absorb,
    BitVec.or_comm (v' &&& m), or_and_absorb]

/-- A test under two disjoint masks is two tests. -/
theorem and_or_eq_iff {m v m' v' : Word} (hd : m &&& m' = 0) (hv : v &&& m = v) (hv' : v' &&& m' = v') (w : Word) :
    w &&& (m ||| m') = v ||| v' ↔ w &&& m = v ∧ w &&& m' = v' := by
  constructor
  · intro h
    have hvm : v' &&& m = 0 := by rw [← hv', BitVec.and_assoc, BitVec.and_comm m', hd]; exact BitVec.and_zero
    have hvm' : v &&& m' = 0 := by rw [← hv, BitVec.and_assoc, hd]; exact BitVec.and_zero
    have hleft := congrArg (· &&& m) h
    have hright := congrArg (· &&& m') h
    simp only [BitVec.and_or_distrib_left, BitVec.and_or_distrib_right, BitVec.and_assoc, BitVec.and_self, hv, hv', hd,
      hvm, hvm', BitVec.and_comm m' m] at hleft hright
    exact ⟨by simpa using hleft, by simpa using hright⟩
  · rintro ⟨rfl, rfl⟩
    exact BitVec.and_or_distrib_left

/-! ### The row a mnemonic is written as (R228) -/

theorem isResolvedForm_dpForm (ob : Word) : isResolvedForm (dpForm ob) = true := by
  unfold dpForm
  split_ifs <;> rfl

/-- `WritesRow ob m r mask value`: over the operand bits `ob`, `encode_instruction` writes `m` as the row `r`, and
`value` under `mask` into bits the row leaves free: condition 1110, the class code of a Branch, and every bit of a
`Swi`. -/
inductive WritesRow (ob : Word) : Mnemonic → OpcodeRow → (mask value : Word) → Prop
  | dataProcessing (k : BitVec 4) :
      WritesRow ob (dpMnemonic k) (dataProcessingRow (dpForm ob) k) 0xF0000000 0xE0000000
  | loadStore (l b : BitVec 1) : WritesRow ob (lsMnemonic l b) (loadStoreRow l b) 0xF0000000 0xE0000000
  | branch (link : BitVec 1) : WritesRow ob (branchMnemonic link) (branchRow link) 0xF2000000 0xE2000000
  | swi (imm : BitVec 24) : WritesRow ob (.swi imm) swiRow 0xF3FFFFFF (0xE3000000 ||| imm.setWidth 32)

/-- Every mnemonic but `Undefined` has a row. -/
theorem exists_writesRow (ob : Word) {m : Mnemonic} (h : ∀ u, m ≠ .undefined u) :
    ∃ r mask value, WritesRow ob m r mask value := by
  have hdp (k : BitVec 4) (hk : dpMnemonic k = m) : ∃ r mask value, WritesRow ob m r mask value := by
    rw [← hk]
    exact ⟨_, _, _, .dataProcessing k⟩
  cases hm : m with
  | undefined u => exact absurd hm (h u)
  | swi imm => exact ⟨_, _, _, .swi imm⟩
  | b => exact ⟨_, _, _, .branch 0#1⟩
  | bl => exact ⟨_, _, _, .branch 1#1⟩
  | ldr => exact ⟨_, _, _, .loadStore 1#1 0#1⟩
  | str => exact ⟨_, _, _, .loadStore 0#1 0#1⟩
  | ldrb => exact ⟨_, _, _, .loadStore 1#1 1#1⟩
  | strb => exact ⟨_, _, _, .loadStore 0#1 1#1⟩
  | and | eor | sub | rsb | add | adc | sbc | rsc | tst | teq | cmp | cmn | orr | mov | bic | mvn =>
    exact hm ▸ hdp ((mnemonicId m).setWidth 4) (by rw [hm]; rfl)

theorem encodeInstruction_dpMnemonic (k : BitVec 4) (ob : Word) :
    encodeInstruction (dpMnemonic k) ob = encodeDataProcessing k ob := by
  unfold dpMnemonic
  split
  case h_16 =>
    have : k = 0b1111#4 := by simp only [imp_false] at *; bv_omega
    rw [this, encodeInstruction]
  all_goals rfl

theorem encodeInstruction_lsMnemonic (l b : BitVec 1) (ob : Word) :
    encodeInstruction (lsMnemonic l b) ob = encodeLoadStore l b ob := by
  rcases BitVec.eq_zero_or_eq_one l with rfl | rfl <;> rcases BitVec.eq_zero_or_eq_one b with rfl | rfl <;> rfl

theorem encodeInstruction_branchMnemonic (link : BitVec 1) (ob : Word) :
    encodeInstruction (branchMnemonic link) ob = encodeBranch link ob := by
  rcases BitVec.eq_zero_or_eq_one link with rfl | rfl <;> rfl

/-- A field written over an overlay widens its mask (R11, R228). -/
theorem putBits_overlay {n : Nat} (w m v : Word) (lo : Nat) (x : BitVec n) :
    putBits (w &&& m ||| v) lo x = w &&& (m &&& ~~~((BitVec.allOnes n).setWidth 32 <<< lo)) |||
      (v &&& ~~~((BitVec.allOnes n).setWidth 32 <<< lo) ||| x.setWidth 32 <<< lo) :=
  overlay_overlay w m v _ _

theorem encodeSubform_overlay (f : DataProcessingForm) (w m v : Word) :
    encodeSubform f (w &&& m ||| v) = w &&& (m &&& ~~~encodeMask f) ||| (v &&& ~~~encodeMask f ||| encodeValue f) :=
  overlay_overlay w m v _ _

theorem withAlways_eq (ob : Word) : withAlways ob = ob &&& 0x0FFFFFFF ||| 0xE0000000 := rfl

/-- S is written only as 1 (R222). -/
theorem ite_putBits_bit20 (k : BitVec 4) (w : Word) :
    (if isTestOpcode k then putBits w 20 1#1 else w) = w ||| (forcedS k).setWidth 32 <<< 20 := by
  cases hk : isTestOpcode k with
  | false => simp [forcedS, hk]
  | true =>
    calc putBits w 20 1#1
      _ = w &&& ~~~(0#32 ||| 0x00100000#32) ||| 0x00100000#32 := rfl
      _ = w &&& BitVec.allOnes 32 ||| 0x00100000#32 := overlay_absorb BitVec.or_self w 0#32
      _ = w ||| (forcedS k).setWidth 32 <<< 20 := by rw [BitVec.and_allOnes, forcedS, hk]; rfl

/-- The bit S is no part of the mask here: it keeps its value unless it is set. -/
theorem encodeDataProcessing_eq (k : BitVec 4) (ob : Word) : encodeDataProcessing k ob =
    ob &&& ~~~(0xF0000000 ||| (encodeMask (dpForm ob) ||| 0x0DE00000)) ||| (0xE0000000 ||| encodeValue (dpForm ob)) |||
      k.setWidth 32 <<< 21 ||| (forcedS k).setWidth 32 <<< 20 := by
  rw [encodeDataProcessing, ite_putBits_bit20, encodeClass, withAlways_eq, putBits_overlay, encodeSubform_overlay,
    putBits_overlay, ← BitVec.or_assoc]
  obtain h | h | h := resolvedForm_cases (isResolvedForm_dpForm ob)
  all_goals
    rw [h]
    rfl

theorem encodeLoadStore_eq (l b : BitVec 1) (ob : Word) : encodeLoadStore l b ob =
    ob &&& ~~~(0xF0000000 ||| (loadStoreRow l b).mask) ||| (0xE0000000 ||| (loadStoreRow l b).value) := by
  rw [encodeLoadStore, encodeClass, withAlways_eq]
  simp only [putBits_overlay]
  rcases BitVec.eq_zero_or_eq_one l with rfl | rfl <;> rcases BitVec.eq_zero_or_eq_one b with rfl | rfl <;> rfl

theorem encodeBranch_eq (link : BitVec 1) (ob : Word) : encodeBranch link ob =
    ob &&& ~~~(0xF2000000 ||| (branchRow link).mask) ||| (0xE2000000 ||| (branchRow link).value) := by
  rw [encodeBranch, encodeClass, withAlways_eq]
  simp only [putBits_overlay]
  rcases BitVec.eq_zero_or_eq_one link with rfl | rfl <;> rfl

theorem encodeSwi_eq (imm : BitVec 24) (ob : Word) : encodeSwi imm ob = 0xEF000000 ||| imm.setWidth 32 := by
  rw [encodeSwi, encodeClass, withAlways_eq]
  simp only [putBits_overlay]
  change ob &&& 0#32 ||| (0xEF000000 ||| imm.setWidth 32 <<< 0) = _
  rw [BitVec.and_zero, BitVec.zero_or, BitVec.shiftLeft_zero]
  rfl

/-- The immediate lies in bits 23:0. -/
theorem setWidth_imm_and_low (imm : BitVec 24) : imm.setWidth 32 &&& 0x00FFFFFF = imm.setWidth 32 := by
  change imm.setWidth 32 &&& (BitVec.allOnes 24).setWidth 32 = _
  rw [← BitVec.setWidth_and, BitVec.and_allOnes]

theorem setWidth_imm_and (imm : BitVec 24) (x : Word) :
    imm.setWidth 32 &&& x = imm.setWidth 32 &&& (0x00FFFFFF &&& x) := by
  rw [← BitVec.and_assoc, setWidth_imm_and_low]

theorem matchesWord_iff_masks {r : OpcodeRow} {p : Class11xPolicy} {w : Word} : r.matchesWord p w = true ↔
    w &&& r.mask = r.value ∧ w &&& 0xF0000000 ≠ 0xF0000000 ∧ (r.id = 22 → p = .supervisorCall) := by
  simp only [OpcodeRow.matchesWord, Bool.and_eq_true, Bool.or_eq_true, beq_iff_eq, bne_iff_ne]
  tauto

theorem writtenMask_dpMnemonic (k : BitVec 4) (ob : Word) : writtenMask (dpMnemonic k) ob =
    writtenMask.writtenDataProcessing ob ||| (forcedS k).setWidth 32 <<< 20 := by
  unfold dpMnemonic
  split
  case h_9 | h_10 | h_11 | h_12 => rfl
  case h_16 =>
    have : k = 0b1111#4 := by simp only [imp_false] at *; bv_omega
    rw [this, writtenMask]
    exact BitVec.or_zero.symm
  all_goals exact BitVec.or_zero.symm

section
variable {ob : Word} {m : Mnemonic} {r : OpcodeRow} {mask value : Word}

theorem encodeInstruction_of_writesRow (h : WritesRow ob m r mask value) :
    encodeInstruction m ob = ob &&& ~~~(mask ||| r.mask) ||| (value ||| r.value) := by
  cases h with
  | dataProcessing k =>
    rw [encodeInstruction_dpMnemonic, encodeDataProcessing_eq]
    have habsorb := overlay_absorb (b := (forcedS k).setWidth 32 <<< 20)
      (v := 0xE0000000 ||| (dataProcessingRow (dpForm ob) k).value)
      (by simp only [dataProcessingRow, BitVec.or_assoc, BitVec.or_self]) ob
      (0xF0000000 ||| (encodeMask (dpForm ob) ||| 0x0DE00000))
    simp only [dataProcessingRow, BitVec.or_assoc] at habsorb ⊢
    exact habsorb.symm
  | loadStore l b => rw [encodeInstruction_lsMnemonic, encodeLoadStore_eq]
  | branch link => rw [encodeInstruction_branchMnemonic, encodeBranch_eq]
  | swi imm =>
    rw [encodeInstruction, encodeSwi_eq]
    change _ = ob &&& 0#32 ||| _
    rw [BitVec.and_zero, BitVec.zero_or, BitVec.or_assoc, BitVec.or_comm (imm.setWidth 32), ← BitVec.or_assoc]
    rfl

theorem writtenMask_of_writesRow (h : WritesRow ob m r mask value) : writtenMask m ob = mask ||| r.mask := by
  cases h with
  | dataProcessing k =>
    rw [writtenMask_dpMnemonic, writtenMask.writtenDataProcessing, dataProcessingRow, dpForm]
    split_ifs <;> rw [← BitVec.or_assoc] <;> rfl
  | loadStore l b =>
    rcases BitVec.eq_zero_or_eq_one l with rfl | rfl <;> rcases BitVec.eq_zero_or_eq_one b with rfl | rfl <;> rfl
  | branch link => rcases BitVec.eq_zero_or_eq_one link with rfl | rfl <;> rfl
  | swi imm => rfl

/-- The two masks of a row do not meet, and each covers its value. -/
theorem masks_of_writesRow (h : WritesRow ob m r mask value) :
    mask &&& r.mask = 0 ∧ value &&& mask = value ∧ r.value &&& r.mask = r.value := by
  cases h with
  | dataProcessing k =>
    obtain h | h | h := resolvedForm_cases (isResolvedForm_dpForm ob)
    all_goals
      rw [h]
      revert k
      decide
  | loadStore l b => revert l b; decide
  | branch link => revert link; decide
  | swi imm =>
    refine ⟨by decide, ?_, by decide⟩
    rw [BitVec.and_or_distrib_right, setWidth_imm_and]
    exact congrArg _ (setWidth_imm_and_low imm)

/-- Condition 1110 is written beside every row. -/
theorem cond_of_writesRow (h : WritesRow ob m r mask value) :
    (mask ||| r.mask) &&& 0xF0000000 = 0xF0000000 ∧ (value ||| r.value) &&& 0xF0000000 = 0xE0000000 := by
  cases h with
  | dataProcessing k =>
    obtain h | h | h := resolvedForm_cases (isResolvedForm_dpForm ob)
    all_goals
      rw [h]
      revert k
      decide
  | loadStore l b => revert l b; decide
  | branch link => revert link; decide
  | swi imm =>
    refine ⟨by decide, ?_⟩
    rw [BitVec.and_or_distrib_right, BitVec.and_or_distrib_right, setWidth_imm_and]
    change 0xE0000000 ||| imm.setWidth 32 &&& 0#32 ||| 0#32 = _
    rw [BitVec.and_zero, BitVec.or_zero, BitVec.or_zero]

/-- The encoded word under the two masks. -/
theorem encodeInstruction_and_masks (h : WritesRow ob m r mask value) :
    encodeInstruction m ob &&& mask = value ∧ encodeInstruction m ob &&& r.mask = r.value := by
  obtain ⟨hd, hv, hrv⟩ := masks_of_writesRow h
  rw [← and_or_eq_iff hd hv hrv, encodeInstruction_of_writesRow h, overlay_and BitVec.and_self,
    or_and_or_of_and hv hrv]

/-- An encoded word matches its row, under the policy that the row exists in (R67). -/
theorem matchesWord_encodeInstruction (h : WritesRow ob m r mask value) {p : Class11xPolicy}
    (hp : r.id = 22 → p = .supervisorCall) : r.matchesWord p (encodeInstruction m ob) = true := by
  obtain ⟨hcover, hvalue⟩ := cond_of_writesRow h
  have hcond : encodeInstruction m ob &&& 0xF0000000 = 0xE0000000 := by
    rw [encodeInstruction_of_writesRow h, overlay_and hcover, hvalue]
  refine matchesWord_iff_masks.mpr ⟨(encodeInstruction_and_masks h).2, ?_, hp⟩
  rw [hcond]
  decide

/-- A word that stands in its row is left alone if the free bits written beside the row are there. -/
theorem encodeInstruction_eq_self_iff (h : WritesRow ob m r mask value) (hrow : ob &&& r.mask = r.value) :
    encodeInstruction m ob = ob ↔ ob &&& mask = value := by
  obtain ⟨hd, hv, hrv⟩ := masks_of_writesRow h
  rw [encodeInstruction_of_writesRow h, overlay_eq_self_iff (or_and_or_of_and hv hrv), and_or_eq_iff hd hv hrv]
  exact and_iff_left hrow

end

/-! ### Decoding an encoded word (R229, R254) -/

/-- The stages of the decoder on an encoded data-processing word. -/
theorem encodeInstruction_dpMnemonic_stages (p : Class11xPolicy) (k : BitVec 4) (ob : Word) :
    (decodeCondition (encodeInstruction (dpMnemonic k) ob)).isSome = true ∧
      decodeSubform (encodeInstruction (dpMnemonic k) ob) = some (dpForm ob) ∧
      dpOpcode (encodeInstruction (dpMnemonic k) ob) = k :=
  (dataProcessingRow_matches (isResolvedForm_dpForm ob) k p _).mp
    (matchesWord_encodeInstruction (.dataProcessing k) fun hid => absurd hid (dpMnemonic_carriesNothing k).1)

theorem decode_encode_dpMnemonic (p : Class11xPolicy) (k : BitVec 4) (ob : Word) :
    decodeInstruction p (encodeInstruction (dpMnemonic k) ob) = dpMnemonic k := by
  obtain ⟨hc, hs, hk⟩ := encodeInstruction_dpMnemonic_stages p k ob
  rw [decodeInstruction_of_form hc hs, isResolvedForm_dpForm, if_pos rfl, hk]

theorem decode_encode_lsMnemonic (p : Class11xPolicy) (l b : BitVec 1) (ob : Word) :
    decodeInstruction p (encodeInstruction (lsMnemonic l b) ob) = lsMnemonic l b := by
  obtain ⟨hc, hclass, hl, hb⟩ := (loadStoreRow_matches l b p _).mp
    (matchesWord_encodeInstruction (.loadStore l b) (ob := ob)
      fun hid => absurd hid (lsMnemonic_carriesNothing l b).1)
  rw [decodeInstruction_of_loadStore hc hclass, hl, hb]

theorem decode_encode_branchMnemonic (p : Class11xPolicy) (link : BitVec 1) (ob : Word) :
    decodeInstruction p (encodeInstruction (branchMnemonic link) ob) = branchMnemonic link := by
  obtain ⟨hc, hclass, hlink⟩ := (branchRow_matches link p _).mp
    (matchesWord_encodeInstruction (.branch link) (ob := ob)
      fun hid => absurd hid (branchMnemonic_carriesNothing link).1)
  rw [decodeInstruction_of_branch hc hclass, hlink]

theorem imm24_encodeSwi (imm : BitVec 24) (ob : Word) : imm24 (encodeSwi imm ob) = imm := by
  rw [encodeSwi]
  exact extractLsb'_putBits _ 0 imm (by decide)

theorem decode_encode_swi (imm : BitVec 24) (ob : Word) :
    decodeInstruction .supervisorCall (encodeInstruction (.swi imm) ob) = .swi imm := by
  obtain ⟨hc, hclass⟩ := (swiRow_matches .supervisorCall _).mp
    (matchesWord_encodeInstruction (.swi imm) (ob := ob) fun _ => rfl)
  rw [decodeInstruction_of_supervisorCall hc hclass, encodeInstruction, imm24_encodeSwi]

/-- The policy takes only `Swi` away (R254). -/
theorem decode_encode {m : Mnemonic} (ob : Word) (p : Class11xPolicy) (hm : ∀ u, m ≠ .undefined u)
    (hp : p = .supervisorCall ∨ ∀ i, m ≠ .swi i) : decodeInstruction p (encodeInstruction m ob) = m := by
  obtain ⟨r, mask, value, h⟩ := exists_writesRow ob hm
  cases h with
  | dataProcessing k => exact decode_encode_dpMnemonic p k ob
  | loadStore l b => exact decode_encode_lsMnemonic p l b ob
  | branch link => exact decode_encode_branchMnemonic p link ob
  | swi imm =>
    obtain rfl : p = .supervisorCall := hp.resolve_right fun hno => hno imm rfl
    exact decode_encode_swi imm ob

theorem dpForm_eq (ob : Word) : dpForm ob = if ob.getLsbD 25 then .dataProcessingImmediate
    else if ob.getLsbD 4 then .dataProcessingRegisterShifted else .dataProcessingRegister := by
  rw [dpForm, dpOp, extractLsb'_one_eq_ofBool, classOp1_eq_ofBool]
  cases ob.getLsbD 25 <;> cases ob.getLsbD 4 <;> rfl

/-- Settles O29: the encoded word stands in the row of the chosen form. -/
theorem encodedFormIsTheChosenForm : Obligations.EncodedFormIsTheChosenForm := by
  unfold Obligations.EncodedFormIsTheChosenForm
  intro p k ob
  obtain ⟨_, hs, _⟩ := encodeInstruction_dpMnemonic_stages p k ob
  obtain ⟨_, hpred⟩ := decodeSubform_eq_some.mp hs
  obtain ⟨_, hS, hop2⟩ := (formPredicate_of_resolved (isResolvedForm_dpForm ob) _ _ _).mp hpred
  refine ⟨dpForm_eq ob, fun hform => ?_, ?_, hs, decode_encode_dpMnemonic p k ob⟩
  · have hbit7 : ∀ op2 : BitVec 4, hits op2 0b1001#4 0b0001#4 = true → op2.getLsbD 3 = false := by decide
    rw [hform] at hop2
    simpa [dpOp2] using hbit7 _ hop2
  · rw [Ne, ← testWithoutS_iff, hS]
    exact Bool.false_ne_true

/-! ### The fields of an encoded word (R228) -/

theorem forcedS_field : ∀ k : BitVec 4,
    (forcedS k).setWidth 32 <<< 20 = if 8 ≤ k.toNat ∧ k.toNat ≤ 11 then (0x00100000 : Word) else 0 := by
  decide

/-- The frame of the encoder. -/
theorem encodeInstruction_frame (m : Mnemonic) (ob : Word) (q : Nat) (hq : q < 32)
    (h : (writtenMask m ob).getLsbD q = false) : (encodeInstruction m ob).getLsbD q = ob.getLsbD q := by
  by_cases hm : ∃ u, m = .undefined u
  case pos =>
    obtain ⟨u, rfl⟩ := hm
    have hall : (BitVec.allOnes 32).getLsbD q = false := h
    rw [BitVec.getLsbD_allOnes, decide_eq_true hq] at hall
    cases hall
  case neg =>
    obtain ⟨r, mask, value, hrow⟩ := exists_writesRow ob (not_exists.mp hm)
    obtain ⟨_, hv, hrv⟩ := masks_of_writesRow hrow
    have hvalue := or_and_or_of_and hv hrv
    rw [writtenMask_of_writesRow hrow] at h
    rw [encodeInstruction_of_writesRow hrow, ← hvalue]
    rw [BitVec.getLsbD_or, BitVec.getLsbD_and, BitVec.getLsbD_and, BitVec.getLsbD_not, h]
    simp [hq]

/-- Settles O28: each family is a mask and a value, and outside the mask the operand bits stand. -/
theorem encodeInstructionFields : Obligations.EncodeInstructionFields := by
  unfold Obligations.EncodeInstructionFields
  refine ⟨fun k ob => ?_, fun ob => ⟨?_, ?_, ?_, ?_, ?_, ?_⟩, encodeSwi_eq, fun _ _ => rfl, encodeInstruction_frame⟩
  · rw [encodeInstruction_dpMnemonic, encodeDataProcessing_eq, dpForm_eq, ← forcedS_field]
    cases ob.getLsbD 25 <;> cases ob.getLsbD 4 <;> rfl
  · exact encodeLoadStore_eq 1 0 ob
  · exact encodeLoadStore_eq 0 0 ob
  · exact encodeLoadStore_eq 1 1 ob
  · exact encodeLoadStore_eq 0 1 ob
  · exact encodeBranch_eq 0 ob
  · exact encodeBranch_eq 1 ob

/-! ### The payload ports (R256) -/

/-- A payload is read only under the identifier of the mnemonic that carries it. -/
theorem mnemonicOfPort_congr {k : BitVec 5} {imm imm' : BitVec 24} {u u' : Word} (himm : k = 22 → imm = imm')
    (hword : k = 23 → u = u') : mnemonicOfPort k imm u = mnemonicOfPort k imm' u' := by
  by_cases hnamed : 24 ≤ k.toNat
  · rw [mnemonicOfPort_eq_none imm u hnamed, mnemonicOfPort_eq_none imm' u' hnamed]
  · generalize hm : mnemonicOfPort k imm u = m
    unfold mnemonicOfPort at hm
    split at hm
    case h_23 => rw [← hm, himm rfl, mnemonicOfPort]
    case h_24 => rw [← hm, hword rfl, mnemonicOfPort]
    case h_25 => simp only [imp_false] at *; bv_omega
    all_goals exact hm.symm

/-- Settles O36: the mnemonic built from the ports is the same under another payload that it does not carry. -/
theorem encodePayloadPortsAreSelected : Obligations.EncodePayloadPortsAreSelected := by
  unfold Obligations.EncodePayloadPortsAreSelected
  refine ⟨fun k imm u ob hk => ?_, fun k imm imm' u ob hk => ?_, fun k imm u u' ob hk => ?_, fun imm u ob => ⟨?_, rfl⟩⟩
  · rw [encodeMnemonicPort, mnemonicOfPort_eq_none imm u hk]
  · rw [encodeMnemonicPort, mnemonicOfPort_congr (fun h => absurd h hk) fun _ => rfl, ← encodeMnemonicPort]
  · rw [encodeMnemonicPort, mnemonicOfPort_congr (fun _ => rfl) fun h => absurd h hk, ← encodeMnemonicPort]
  · exact congrArg PortOut.driven (encodeSwi_eq imm ob)

/-! ### Encoding a word that resolves (R254) -/

/-- The form read off the operand bits is the sub-form of a resolved word (R229). -/
theorem dpForm_of_decodeSubform {w : Word} {f : DataProcessingForm} (hs : decodeSubform w = some f)
    (hf : isResolvedForm f = true) : dpForm w = f := by
  obtain ⟨hop, _, hop2⟩ := (formPredicate_of_resolved hf _ _ _).mp (decodeSubform_eq_some.mp hs).2
  have hbit4 : (dpOp2 w).getLsbD 0 = w.getLsbD 4 := by simp [dpOp2]
  rw [dpForm, hop, classOp1_eq_ofBool, ← hbit4]
  generalize dpOp2 w = op2 at hop2
  obtain rfl | rfl | rfl := resolvedForm_cases hf <;> revert op2 <;> decide

theorem and_cond_eq_al_iff (w : Word) : w &&& 0xF0000000 = 0xE0000000 ↔ w.extractLsb 31 28 = 0b1110#4 := by
  have hself := overlay_eq_self_iff (m := 0xF0000000) (v := 0xE0000000) rfl w
  exact hself.symm.trans (putBits_eq_self_iff (lo := 28) (v := 0b1110#4) (by decide))

theorem and_twoPow_eq_iff (w : Word) (i : Nat) (hi : i < 32) :
    w &&& BitVec.twoPow 32 i = BitVec.twoPow 32 i ↔ w.getLsbD i = true := by
  have hne : BitVec.twoPow 32 i ≠ 0#32 := fun h => by
    have hbit := congrArg (·.getLsbD i) h
    simp [hi] at hbit
  rw [BitVec.and_twoPow]
  cases w.getLsbD i <;> simp [hne.symm]

theorem and_branch_eq_iff (w : Word) :
    w &&& 0xF2000000 = 0xE2000000 ↔ w.extractLsb 31 28 = 0b1110#4 ∧ w.getLsbD 25 = true := by
  rw [← and_cond_eq_al_iff, ← and_twoPow_eq_iff w 25 (by decide), ← and_or_eq_iff rfl rfl rfl]
  rfl

theorem and_imm24_eq (w : Word) : w &&& 0x00FFFFFF = (imm24 w).setWidth 32 := by
  have hself : putBits w 0 (imm24 w) = w := (putBits_eq_self_iff (by decide)).mpr rfl
  rw [putBits, BitVec.shiftLeft_zero, BitVec.shiftLeft_zero] at hself
  exact (overlay_eq_self_iff (setWidth_imm_and_low (imm24 w)) w).mp hself

theorem and_swi_eq_iff {w : Word} (hg : classGate w = 0b11#2) :
    w &&& 0xF3FFFFFF = 0xE3000000 ||| (imm24 w).setWidth 32 ↔
      w.extractLsb 31 28 = 0b1110#4 ∧ w.extractLsb 27 25 = 0b111#3 ∧ w.getLsbD 24 = true := by
  have hclass : w.extractLsb 27 25 = 0b111#3 ↔ w.getLsbD 25 = true := by
    have htable : ∀ b : Bool, 0b11#2 ++ BitVec.ofBool b = 0b111#3 ↔ b = true := by decide
    rw [← htable, ← extractLsb'_one_eq_ofBool, ← hg]
    exact (congrArg (· = _) (classGate_append_dpOp w).symm).to_iff
  have hsplit : w &&& 0xF3FFFFFF = 0xE3000000 ||| (imm24 w).setWidth 32 ↔
      w &&& 0xF3000000 = 0xE3000000 ∧ w &&& 0x00FFFFFF = (imm24 w).setWidth 32 :=
    and_or_eq_iff (m := 0xF3000000) (m' := 0x00FFFFFF) (by decide) (by decide) (setWidth_imm_and_low _) w
  rw [hsplit, and_iff_left (and_imm24_eq w), hclass, ← and_twoPow_eq_iff w 24 (by decide), ← and_assoc,
    ← and_branch_eq_iff, ← and_or_eq_iff rfl rfl rfl]
  rfl

/-- Settles O30: an encoded word matches its mnemonic's row, and a word that matches the row already is changed only in
the bits written beside the row. -/
theorem mnemonicRoundTrip : Obligations.MnemonicRoundTrip := by
  unfold Obligations.MnemonicRoundTrip
  refine ⟨fun m ob hm => decode_encode ob _ hm (.inl rfl), fun m ob hm hswi => decode_encode ob _ hm (.inr hswi),
    fun p w hm => ?_⟩
  have hcase := decodeInstruction_case p w
  generalize decodeInstruction p w = m at hcase hm
  cases hcase with
  | noCondition | unresolvedClass | unresolvedForm => exact absurd rfl (hm w)
  | dataProcessing hc hs hf =>
    have hrow : (dataProcessingRow (dpForm w) (dpOpcode w)).matchesWord p w = true := by
      rw [dpForm_of_decodeSubform hs hf]
      exact (dataProcessingRow_matches hf _ p w).mpr ⟨hc, hs, rfl⟩
    rw [encodeInstruction_eq_self_iff (.dataProcessing _) (matchesWord_iff_masks.mp hrow).1, and_cond_eq_al_iff]
    refine (and_iff_left ?_).symm
    have hid : (mnemonicId (dpMnemonic (dpOpcode w))).toNat < 16 := by
      rw [toNat_mnemonicId_dpMnemonic]
      exact (dpOpcode w).isLt
    split
    case h_4 => trivial
    all_goals
      rename_i h
      simp [h, mnemonicId] at hid
  | loadStore hc hclass =>
    have hrow := (loadStoreRow_matches (bit20 w) (bit22 w) p w).mpr ⟨hc, hclass, rfl, rfl⟩
    rw [encodeInstruction_eq_self_iff (.loadStore _ _) (matchesWord_iff_masks.mp hrow).1, and_cond_eq_al_iff]
    refine (and_iff_left ?_).symm
    rcases BitVec.eq_zero_or_eq_one (bit20 w) with hl | hl <;>
      rcases BitVec.eq_zero_or_eq_one (bit22 w) with hb | hb <;> rw [hl, hb] <;> trivial
  | branch hc hclass =>
    have hrow := (branchRow_matches (bit24 w) p w).mpr ⟨hc, hclass, rfl⟩
    rw [encodeInstruction_eq_self_iff (.branch _) (matchesWord_iff_masks.mp hrow).1, and_branch_eq_iff]
    rcases BitVec.eq_zero_or_eq_one (bit24 w) with h | h <;> rw [h] <;> rfl
  | swi hc hclass =>
    have hrow := (swiRow_matches p w).mpr ⟨hc, hclass⟩
    rw [encodeInstruction_eq_self_iff (.swi _) (matchesWord_iff_masks.mp hrow).1,
      and_swi_eq_iff (decodeClass_eq_supervisorCall.mp hclass).2]

end Sys2Proof.Mnemonics

/-! ## The error outputs (spec/60_exceptions.md sections 1 and 2)

An error output is 1 exactly when its stage found nothing, so the causes of R301 to R303 are those of the stages; the
single error of R306 is read off the outputs. The one fault of the model stays with the bit-field operations (R304):
no step ends in it. -/

namespace Sys2Proof.Errors

open Sys2Proof.Machine Sys2Proof.Ports Sys2Proof.Table Sys2Proof.BitFields Sys2Proof.Conditions Sys2Proof.Classes
open Sys2Proof.Subforms Sys2Proof.Mnemonics Sys2Proof.Identifiers

/-! ### Each output and the stage it reports (R124, R155, R200) -/

section
variable {p : Class11xPolicy} {w : Word}

theorem decodeGroup_eq : decodeGroup p w =
    drivenOutputs w (decodeCondition w) (decodeClass p w) (decodeSubform w) (decodeInstruction p w) := rfl

theorem errCond_iff : (decodeGroup p w).errCond = true ↔ decodeCondition w = none := by
  simp [decodeGroup_eq]

theorem errClass_iff : (decodeGroup p w).errClass = true ↔ decodeClass p w = none := by
  simp [decodeGroup_eq]

theorem errSubform_iff :
    (decodeGroup p w).errSubform = true ↔ classGate w = 0b00#2 ∧ decodeSubform w = none := by
  simp [decodeGroup_eq]

/-- Every word of the gate has a sub-form (R196), so the output is never raised (R303). -/
theorem errSubform_eq_false : (decodeGroup p w).errSubform = false := by
  obtain ⟨_, _, herr, _⟩ := errorsAgree_drivenOutputs (decodeCondition w) (decodeClass p w) (decodeInstruction p w)
    (isSome_decodeSubform w).mpr
  exact herr

/-- Within the gate, no sub-form found means no predicate true. -/
theorem decodeSubform_eq_none_iff_predicates (hgate : classGate w = 0b00#2) :
    decodeSubform w = none ↔ ∀ f, formPredicate f (dpOp w) (dpOp1 w) (dpOp2 w) = false := by
  simp only [Option.eq_none_iff_forall_ne_some, Ne, decodeSubform_eq_some, hgate, true_and, Bool.not_eq_true]

/-! ### The ports beside an error (R31) -/

theorem cond_ports_of_none (h : decodeCondition w = none) :
    (decodeGroup p w).condValid = false ∧ (decodeGroup p w).condCode = 0#4 := by
  simp [decodeGroup_eq, h]

theorem class_ports_of_none (h : decodeClass p w = none) :
    (decodeGroup p w).classValid = false ∧ (decodeGroup p w).classId = 0#3 := by
  simp [decodeGroup_eq, h]

theorem subform_ports_of_none (h : decodeSubform w = none) :
    (decodeGroup p w).subformValid = false ∧ (decodeGroup p w).subformId = 0#4 := by
  simp [decodeGroup_eq, h]

/-- The diagnostic port carries the whole word (R227, R255). -/
theorem undefWord_of_undefined (h : decodeInstruction p w = .undefined w) : (decodeGroup p w).undefWord = w := by
  rw [decodeGroup_eq, drivenOutputs_undefWord, h, mnemonicWord]

end

/-- Settles O33: each output is raised by its stage, and a stage that found nothing leaves its ports at zero and the
answer `Undefined`. -/
theorem errorOutputsAndTheirCauses : Obligations.ErrorOutputsAndTheirCauses := by
  unfold Obligations.ErrorOutputsAndTheirCauses
  intro p w
  refine ⟨errCond_iff.trans decodeCondition_eq_none, fun herr => ?_, errClass_iff.trans decodeClass_eq_none,
    fun herr => ?_, errSubform_eq_false, fun hgate => subform_ports_of_none (decodeSubform_eq_none.mpr hgate)⟩
  · have hnone := errCond_iff.mp herr
    obtain ⟨hvalid, hcode⟩ := cond_ports_of_none hnone
    exact ⟨hnone, hvalid, hcode, decodeInstruction_of_no_condition p hnone⟩
  · have hnone := errClass_iff.mp herr
    obtain ⟨hvalid, hid⟩ := class_ports_of_none hnone
    exact ⟨hnone, hvalid, hid, decodeInstruction_of_unresolved_class (.inl hnone)⟩

/-! ### The one fault (R304) -/

/-- An operation that checks its position list fails with the list, and only when the check does. -/
theorem eq_error_iff_invalid {α : Type} {x : Except Fault α} {P : List Nat} {a : α} {r : Fault}
    (hvalid : positionsValid P = true → x = .ok a)
    (hinvalid : positionsValid P = false → x = .error (.invalidBitPosition P)) :
    x = .error r ↔ positionsValid P = false ∧ r = .invalidBitPosition P := by
  cases hP : positionsValid P with
  | true => simp [hvalid hP]
  | false => simp [hinvalid hP, eq_comm]

/-- An instruction always goes on, well-formed under the policy or not. -/
theorem exists_next_of_exec (i : Instr) (s : State) : ∃ t, exec i s = .next t := by
  cases hwf : i.wf s.params.class11xPolicy with
  | true => exact ⟨_, exec_of_wf hwf⟩
  | false => exact ⟨_, exec_of_not_wf hwf⟩

theorem exists_next_of_step (s : State) : ∃ t, step s = .next t := by
  unfold step
  split
  · exact exists_next_of_exec _ s
  · exact ⟨_, rfl⟩

/-- `InvalidBitPosition` is never the end of a step (R304, R308). -/
theorem step_ne_fault (s : State) (r : Fault) : step s ≠ .fault r := by
  obtain ⟨t, ht⟩ := exists_next_of_step s
  rw [ht]
  nofun

/-! ### The single error (R306) -/

/-- The sub-form stage never raises its error, so two causes are left, the condition's first. -/
theorem singleError_decodeGroup (p : Class11xPolicy) (w : Word) : singleError (decodeGroup p w) =
    if decodeCondition w = none then some .unrecognizedCondition
    else if decodeClass p w = none then some .unrecognizedClass else none := by
  simp only [singleError, errCond_iff, errClass_iff, errSubform_eq_false, Bool.false_eq_true, if_false]

/-- A reported error means that the condition or the class stage failed, and either makes the tree answer
`Undefined`. -/
theorem undefined_of_singleError {p : Class11xPolicy} {w : Word} {e : ErrorKind}
    (h : singleError (decodeGroup p w) = some e) : decodeInstruction p w = .undefined w := by
  rw [singleError_decodeGroup] at h
  split at h
  case isTrue hcond => exact decodeInstruction_of_no_condition p hcond
  case isFalse =>
    split at h
    case isTrue hclass => exact decodeInstruction_of_unresolved_class (.inl hclass)
    case isFalse => cases h

/-- Settles O34: the outputs are traced to their stages, the faults to the list check, and the five rows of R306 are
evaluated. -/
theorem singleErrorInDecodeOrder : Obligations.SingleErrorInDecodeOrder := by
  unfold Obligations.SingleErrorInDecodeOrder
  refine ⟨⟨fun k => by cases k <;> decide, rfl⟩, fun p w => ?_, fun w v e P r => ⟨?_, ?_, ?_⟩, fun r => ?_,
    fun P => positionsValid_of_mem_constantLists, step_ne_fault, ?_, fun p w => ⟨rfl, ?_⟩, fun p w e he => ?_,
    fun p => ?_, fun p => ?_, ?_, ?_, ?_⟩
  · exact ⟨decodeCondition_eq_none, errCond_iff, decodeClass_eq_none, errClass_iff, errSubform_iff,
      errSubform_iff.trans (and_congr_right decodeSubform_eq_none_iff_predicates), errSubform_eq_false⟩
  · exact eq_error_iff_invalid (bfRead_of_valid · w) (bfRead_of_invalid · w)
  · exact eq_error_iff_invalid (bfWrite_of_valid · w v) (bfWrite_of_invalid · w v)
  · exact eq_error_iff_invalid (bfMatch_of_valid · w e) (bfMatch_of_invalid · w e)
  · obtain ⟨P⟩ := r
    exact ⟨⟨P, rfl⟩, rfl⟩
  · exact ⟨rfl, rfl, rfl, fun _ => formOfId_eq_none, fun _ imm u => mnemonicOfPort_eq_none imm u⟩
  · rw [singleError_decodeGroup]
    simp only [decodeCondition_eq_none, decodeClass_eq_none]
    rfl
  · have hundef := undefined_of_singleError he
    exact ⟨hundef, undefWord_of_undefined hundef, rfl⟩
  · cases p <;> decide
  · cases p <;> decide
  all_goals decide

end Sys2Proof.Errors

/-! ## Refused encode inputs (spec/60_exceptions.md section 1, R305)

Each encode port drives a word for the value its identifier names, and refuses an identifier that names none. What is
left are the identifiers of each enumeration. -/

namespace Sys2Proof.EncodePorts

open Sys2Proof.Machine Sys2Proof.Decoding Sys2Proof.Identifiers Sys2Proof.Ports Sys2Proof.Conditions

/-! ### A port drives a named value and refuses the rest -/

/-- The common form of the four encode ports: `o` is what the identifier names, `word` how a value is encoded. -/
def drivenOrRefused {α : Type} {n : Nat} (o : Option α) (word : α → BitVec n) (r : Refusal) : PortOut n :=
  o.elim (.refused r) fun a => .driven (word a)

section
variable {α : Type} {n : Nat} {o : Option α} {word : α → BitVec n} {r : Refusal}

theorem drivenOrRefused_eq_refused : drivenOrRefused o word r = .refused r ↔ o = none := by
  cases o <;> simp [drivenOrRefused]

theorem exists_driven (h : o ≠ none) : ∃ a, o = some a ∧ drivenOrRefused o word r = .driven (word a) := by
  obtain ⟨a, rfl⟩ := Option.ne_none_iff_exists'.mp h
  exact ⟨a, rfl, rfl⟩

end

theorem encodeCondPort_eq (k : BitVec 4) : encodeCondPort k =
    drivenOrRefused (conditionOfCode k) (fun c => (encodeCondition c).extractLsb' 0 4) .encCondIn := by
  unfold encodeCondPort
  cases conditionOfCode k <;> rfl

theorem encodeClassPort_eq (k : BitVec 3) (w : Word) :
    encodeClassPort k w = drivenOrRefused (classOfId k) (encodeClass · w) .encClassIn := by
  unfold encodeClassPort
  cases classOfId k <;> rfl

theorem encodeSubformPort_eq (k : BitVec 4) (w : Word) :
    encodeSubformPort k w = drivenOrRefused (formOfId k) (encodeSubform · w) .encSubformIn := by
  unfold encodeSubformPort
  cases formOfId k <;> rfl

theorem encodeMnemonicPort_eq (k : BitVec 5) (imm : BitVec 24) (u ob : Word) : encodeMnemonicPort k imm u ob =
    drivenOrRefused (mnemonicOfPort k imm u) (encodeInstruction · ob) .encMnemIn := by
  unfold encodeMnemonicPort
  cases mnemonicOfPort k imm u <;> rfl

/-! ### The identifiers that name a value (R29) -/

theorem classOfId_eq_none_iff {k : BitVec 3} : classOfId k = none ↔ k = 6#3 ∨ k = 7#3 := by
  revert k
  decide

theorem formOfId_eq_none_iff {k : BitVec 4} : formOfId k = none ↔ 12 ≤ k.toNat := by
  revert k
  decide

theorem mnemonicOfPort_eq_none_iff {k : BitVec 5} {imm : BitVec 24} {u : Word} :
    mnemonicOfPort k imm u = none ↔ 24 ≤ k.toNat := by
  refine ⟨fun h => ?_, mnemonicOfPort_eq_none imm u⟩
  unfold mnemonicOfPort at h
  split at h
  case h_25 => simp only [imp_false] at *; bv_omega
  all_goals cases h

theorem classId_of_classOfId {k : BitVec 3} {c : InstructionClass} (h : classOfId k = some c) : classId c = k := by
  unfold classOfId at h
  split at h <;> cases h <;> rfl

theorem formId_of_formOfId {k : BitVec 4} {f : DataProcessingForm} (h : formOfId k = some f) : formId f = k := by
  unfold formOfId at h
  split at h <;> cases h <;> rfl

theorem mnemonicId_of_mnemonicOfPort {k : BitVec 5} {imm : BitVec 24} {u : Word} {m : Mnemonic}
    (h : mnemonicOfPort k imm u = some m) : mnemonicId m = k := by
  unfold mnemonicOfPort at h
  split at h <;> cases h <;> rfl

/-! ### Each port -/

/-- A code that names a condition comes out unchanged. -/
theorem encodeCondPort_of_ne {k : BitVec 4} (hk : k ≠ 0b1111#4) : encodeCondPort k = .driven k := by
  obtain ⟨c, hc⟩ := Option.ne_none_iff_exists'.mp (mt conditionOfCode_eq_none.mp hk)
  rw [← conditionOfCode_eq_some.mp hc]
  exact encodeCondPort_conditionCode c

theorem exists_encodeClassPort_eq_driven {k : BitVec 3} (w : Word) (hk : k ≠ 6#3 ∧ k ≠ 7#3) :
    ∃ c, classId c = k ∧ encodeClassPort k w = .driven (encodeClass c w) := by
  obtain ⟨c, hc, hword⟩ := exists_driven (mt classOfId_eq_none_iff.mp (not_or.mpr hk))
  exact ⟨c, classId_of_classOfId hc, (encodeClassPort_eq k w).trans hword⟩

theorem exists_encodeSubformPort_eq_driven {k : BitVec 4} (w : Word) (hk : k.toNat < 12) :
    ∃ f, formId f = k ∧ encodeSubformPort k w = .driven (encodeSubform f w) := by
  obtain ⟨f, hf, hword⟩ := exists_driven (mt formOfId_eq_none_iff.mp (Nat.not_le_of_lt hk))
  exact ⟨f, formId_of_formOfId hf, (encodeSubformPort_eq k w).trans hword⟩

theorem exists_encodeMnemonicPort_eq_driven {k : BitVec 5} (imm : BitVec 24) (u ob : Word) (hk : k.toNat < 24) :
    ∃ m, mnemonicId m = k ∧ encodeMnemonicPort k imm u ob = .driven (encodeInstruction m ob) := by
  obtain ⟨m, hm, hword⟩ := exists_driven (mt mnemonicOfPort_eq_none_iff.mp (Nat.not_le_of_lt hk))
  exact ⟨m, mnemonicId_of_mnemonicOfPort hm, (encodeMnemonicPort_eq k imm u ob).trans hword⟩

/-- Settles O35: a port refuses exactly where nothing is named, and the decode outputs carry identifiers of values
found. -/
theorem encodePortsRefuseUnnamedInputs : Obligations.EncodePortsRefuseUnnamedInputs := by
  unfold Obligations.EncodePortsRefuseUnnamedInputs
  refine fun e => ⟨?_, encodeCondPort_of_ne, ?_, exists_encodeClassPort_eq_driven e.classWordIn, ?_,
    exists_encodeSubformPort_eq_driven e.subformWordIn, ?_,
    exists_encodeMnemonicPort_eq_driven e.swiImm24 e.undefWord e.operandBits, fun p w => ?_⟩
  · rw [encodeGroup, encodeCondPort_eq, drivenOrRefused_eq_refused, conditionOfCode_eq_none]
  · rw [encodeGroup, encodeClassPort_eq, drivenOrRefused_eq_refused, classOfId_eq_none_iff]
  · rw [encodeGroup, encodeSubformPort_eq, drivenOrRefused_eq_refused, formOfId_eq_none_iff]
  · rw [encodeGroup, encodeMnemonicPort_eq, drivenOrRefused_eq_refused, mnemonicOfPort_eq_none_iff]
  · exact idsNamed_drivenOutputs w _ _ (decodeSubform w) _

end Sys2Proof.EncodePorts

/-! ## Instructions and words (spec/30_encoding.md sections 2 and 3, spec/44_mnemonic.md section 1)

Three layers: the decoder on the words of each format, so that it inverts the encoder; what the row of an instruction
reports, which is what the four stages of the tree answer for the word that decodes to it (`Resolves`); the cause of
each rejection, which is a stage that answers nothing (`RejectCause`). -/

namespace Sys2Proof.Instructions

open Sys2Proof.Machine Sys2Proof.Decoding Sys2Proof.Identifiers Sys2Proof.Ports Sys2Proof.Table Sys2Proof.Conditions
open Sys2Proof.Classes Sys2Proof.Subforms Sys2Proof.Mnemonics

/-! ### The decoder below each class gate -/

section
variable {p : Class11xPolicy} {w : Word} {c : Condition}

theorem decodeCondition_of_condField (hc : condField w = conditionCode c) : decodeCondition w = some c :=
  conditionOfCode_eq_some.mpr hc.symm

theorem decode_of_no_condition (hc : decodeCondition w = none) : decode p w = .error .unrecognizedCondition := by
  rw [decodeCondition] at hc
  rw [decode, hc]

theorem decode_of_gate_00 (hc : decodeCondition w = some c) (hg : classGate w = 0b00#2) :
    decode p w = decodeDataProcessing c w := by
  rw [decodeCondition] at hc
  rw [decode, hc, hg]
  rfl

theorem decode_of_gate_01 (hc : decodeCondition w = some c) (hg : classGate w = 0b01#2) :
    decode p w = if dpOp w = 0 then .ok (decodeLoadStore c w)
      else if classOp1 w = 0 then .error .loadStoreMultiple else .error .media := by
  rw [decodeCondition] at hc
  rw [decode, hc, hg]
  rfl

theorem decode_of_gate_10 (hc : decodeCondition w = some c) (hg : classGate w = 0b10#2) :
    decode p w = .ok (decodeBranch c w) := by
  rw [decodeCondition] at hc
  rw [decode, hc, hg]
  rfl

theorem decode_of_gate_11 (hc : decodeCondition w = some c) (hg : classGate w = 0b11#2) :
    decode p w = if p = .supervisorCall then .ok (.swi c (w.extractLsb' 24 2) (imm24 w))
      else .error .unrecognizedClass := by
  rw [decodeCondition] at hc
  rw [decode, hc, hg]
  cases p <;> rfl

end

/-! ### The decoder on the words of each format -/

section
variable (p : Class11xPolicy) (c : Condition)

/-- The test of the decoder that no row's word meets (R222). -/
theorem testOpcode_and_not_s {k : BitVec 4} {f : BitVec 1} (hS : isTestOpcode k = true → f = 1#1) :
    (isTestOpcode k && f == 0#1) = false := by
  cases hk : isTestOpcode k with
  | false => rfl
  | true => rw [hS hk]; rfl

theorem decode_registerWord {k : BitVec 4} {f : BitVec 1} (hS : isTestOpcode k = true → f = 1#1)
    (hi : BitVec 15) (lo : BitVec 4) :
    decode p (registerWord c k f hi lo) = .ok (registerInstr c k f hi lo) := by
  rw [decode_of_gate_00 (decodeCondition_of_condField (c := c) (by simp)) (by simp), decodeDataProcessing]
  simp [testOpcode_and_not_s hS]

theorem decode_registerShiftedWord {k : BitVec 4} {f : BitVec 1} (hS : isTestOpcode k = true → f = 1#1)
    (hi : BitVec 12) (mid : BitVec 2) (lo : BitVec 4) :
    decode p (registerShiftedWord c k f hi mid lo) = .ok (registerShiftedInstr c k f hi mid lo) := by
  rw [decode_of_gate_00 (decodeCondition_of_condField (c := c) (by simp)) (by simp), decodeDataProcessing]
  simp [testOpcode_and_not_s hS]

theorem decode_immediateWord {k : BitVec 4} {f : BitVec 1} (hS : isTestOpcode k = true → f = 1#1)
    (lo : BitVec 20) : decode p (immediateWord c k f lo) = .ok (immediateInstr c k f lo) := by
  rw [decode_of_gate_00 (decodeCondition_of_condField (c := c) (by simp)) (by simp), decodeDataProcessing]
  simp [testOpcode_and_not_s hS]

theorem decode_loadStoreWord (l b : BitVec 1) (hi : BitVec 2) (mid : BitVec 1) (lo : BitVec 20) :
    decode p (loadStoreWord c l b hi mid lo) = .ok
      (if b = 0 then (if l = 1 then .ldr c hi mid lo else .str c hi mid lo)
        else (if l = 1 then .ldrb c hi mid lo else .strb c hi mid lo)) := by
  rw [decode_of_gate_01 (decodeCondition_of_condField (c := c) (by simp)) (by simp), dpOp_loadStoreWord,
    decodeLoadStore]
  simp

theorem decode_branchWord (hi link : BitVec 1) (offset : BitVec 24) :
    decode p (branchWord c hi link offset) = .ok (if link = 1 then .bl c hi offset else .b c hi offset) := by
  rw [decode_of_gate_10 (decodeCondition_of_condField (c := c) (by simp)) (by simp), decodeBranch]
  simp

theorem decode_swiWord (hi : BitVec 2) (imm : BitVec 24) : decode p (swiWord c hi imm) =
    if p = .supervisorCall then .ok (.swi c hi imm) else .error .unrecognizedClass := by
  rw [decode_of_gate_11 (decodeCondition_of_condField (c := c) (by simp)) (by simp)]
  simp

end

/-- A row of the table is read back by the lemma of its format; a free S bit goes with no test opcode, a test row
has S = 1, and the Swi row is there under SupervisorCall only. -/
theorem decode_encode_of_wf {p : Class11xPolicy} {i : Instr} (h : i.wf p = true) : decode p (encode i) = .ok i := by
  cases i with
  | tstRegister | teqRegister | cmpRegister | cmnRegister => exact decode_registerWord p _ (fun _ => rfl) _ _
  | andRegister | eorRegister | subRegister | rsbRegister | addRegister | adcRegister | sbcRegister | rscRegister
  | orrRegister | movRegister | bicRegister | mvnRegister =>
    exact decode_registerWord p _ (fun h => absurd h (by decide)) _ _
  | tstRegisterShifted | teqRegisterShifted | cmpRegisterShifted | cmnRegisterShifted =>
    exact decode_registerShiftedWord p _ (fun _ => rfl) _ _ _
  | andRegisterShifted | eorRegisterShifted | subRegisterShifted | rsbRegisterShifted | addRegisterShifted
  | adcRegisterShifted | sbcRegisterShifted | rscRegisterShifted | orrRegisterShifted | movRegisterShifted
  | bicRegisterShifted | mvnRegisterShifted =>
    exact decode_registerShiftedWord p _ (fun h => absurd h (by decide)) _ _ _
  | tstImmediate | teqImmediate | cmpImmediate | cmnImmediate => exact decode_immediateWord p _ (fun _ => rfl) _
  | andImmediate | eorImmediate | subImmediate | rsbImmediate | addImmediate | adcImmediate | sbcImmediate
  | rscImmediate | orrImmediate | movImmediate | bicImmediate | mvnImmediate =>
    exact decode_immediateWord p _ (fun h => absurd h (by decide)) _
  | ldr | str | ldrb | strb => exact decode_loadStoreWord p _ _ _ _ _ _
  | b | bl => exact decode_branchWord p _ _ _ _
  | swi c hi imm =>
    have hp : p = .supervisorCall := by simpa [Instr.wf] using h
    exact (decode_swiWord p c hi imm).trans (if_pos hp)

/-- Settles O37: the word of each format decodes to its row. -/
theorem decodeOfEncodeIsTheInstruction : Obligations.DecodeOfEncodeIsTheInstruction :=
  fun _ _ => decode_encode_of_wf

/-! ### What the row of an instruction reports -/

/-- The condition, class, sub-form and mnemonic of an instruction's row (R230 to R252). -/
def instrReport (i : Instr) : Condition × InstructionClass × Option DataProcessingForm × Mnemonic :=
  (instrCondition i, instrClass i, instrForm i, instrMnemonic i)

/-- A statement about every opcode is sixteen statements. -/
theorem forall_opcode {P : BitVec 4 → Prop} (h : ∀ j : Fin 16, P (.ofFin j)) (k : BitVec 4) : P k :=
  h k.toFin

theorem instrReport_registerInstr (c : Condition) (k : BitVec 4) (f : BitVec 1) (hi : BitVec 15) (lo : BitVec 4) :
    instrReport (registerInstr c k f hi lo) =
      (c, .dataProcessing, some .dataProcessingRegister, dpMnemonic k) := by
  revert k
  refine forall_opcode fun j => ?_
  fin_cases j <;> rfl

theorem instrReport_registerShiftedInstr (c : Condition) (k : BitVec 4) (f : BitVec 1) (hi : BitVec 12)
    (mid : BitVec 2) (lo : BitVec 4) : instrReport (registerShiftedInstr c k f hi mid lo) =
      (c, .dataProcessing, some .dataProcessingRegisterShifted, dpMnemonic k) := by
  revert k
  refine forall_opcode fun j => ?_
  fin_cases j <;> rfl

theorem instrReport_immediateInstr (c : Condition) (k : BitVec 4) (f : BitVec 1) (lo : BitVec 20) :
    instrReport (immediateInstr c k f lo) =
      (c, .dataProcessing, some .dataProcessingImmediate, dpMnemonic k) := by
  revert k
  refine forall_opcode fun j => ?_
  fin_cases j <;> rfl

theorem instrReport_decodeLoadStore (c : Condition) (w : Word) :
    instrReport (decodeLoadStore c w) = (c, .loadStore, none, lsMnemonic (bit20 w) (bit22 w)) := by
  unfold decodeLoadStore lsMnemonic
  split_ifs <;> rfl

theorem instrReport_decodeBranch (c : Condition) (w : Word) :
    instrReport (decodeBranch c w) = (c, .branch, none, branchMnemonic (bit24 w)) := by
  unfold decodeBranch branchMnemonic
  split_ifs <;> rfl

/-- The policy takes away the one row of its class (R252). -/
theorem wf_iff {p : Class11xPolicy} {i : Instr} :
    i.wf p = true ↔ (instrClass i = .supervisorCall → p = .supervisorCall) := by
  cases i with
  | swi => simp [Instr.wf, instrClass]
  | _ => exact iff_of_true rfl nofun

/-! ### The sub-form of a data-processing word, field by field (R182, R183, R190) -/

section
variable {w : Word}

/-- The exclusion `10xx0` of the three resolved forms is a test opcode with S = 0 (R222). -/
theorem testWithoutS_dpOp1 (w : Word) : testWithoutS (dpOp1 w) = (isTestOpcode (dpOpcode w) && bit20 w == 0#1) := by
  have htable : ∀ (k : BitVec 4) (s : BitVec 1), testWithoutS (k ++ s) = (isTestOpcode k && s == 0#1) := by decide
  rw [← dpOpcode_append_bit20, htable]

theorem testWithoutS_dpOp1_eq_false :
    testWithoutS (dpOp1 w) = false ↔ (isTestOpcode (dpOpcode w) = true → bit20 w = 1#1) := by
  rw [testWithoutS_dpOp1]
  cases isTestOpcode (dpOpcode w) <;> rcases BitVec.eq_zero_or_eq_one (bit20 w) with h | h <;> simp [h]

theorem testWithoutS_of_resolved {f : DataProcessingForm} (hs : decodeSubform w = some f)
    (hf : isResolvedForm f = true) : testWithoutS (dpOp1 w) = false := by
  obtain ⟨_, hS, _⟩ := (formPredicate_of_resolved hf _ _ _).mp (decodeSubform_eq_some.mp hs).2
  exact hS

/-- Bits 7:4 by bit 7 and bit 4. -/
theorem dpOp2_eq (w : Word) : w.extractLsb' 7 1 ++ w.extractLsb' 5 2 ++ classOp1 w = dpOp2 w := by
  simp only [classOp1, dpOp2, BitVec.extractLsb'_append_extractLsb'_eq_extractLsb']

theorem decodeSubform_eq_register : decodeSubform w = some .dataProcessingRegister ↔
    classGate w = 0b00#2 ∧ dpOp w = 0#1 ∧ (isTestOpcode (dpOpcode w) = true → bit20 w = 1#1) ∧ classOp1 w = 0#1 := by
  have hbit4 : ∀ (b7 : BitVec 1) (mid : BitVec 2) (b4 : BitVec 1),
      hits (b7 ++ mid ++ b4) 0b0001#4 0b0000#4 = true ↔ b4 = 0#1 := by decide
  rw [decodeSubform_eq_some, formPredicate_of_resolved rfl, testWithoutS_dpOp1_eq_false, ← dpOp2_eq,
    ← hbit4 (w.extractLsb' 7 1) (w.extractLsb' 5 2) (classOp1 w)]
  rfl

theorem decodeSubform_eq_registerShifted : decodeSubform w = some .dataProcessingRegisterShifted ↔
    classGate w = 0b00#2 ∧ dpOp w = 0#1 ∧ (isTestOpcode (dpOpcode w) = true → bit20 w = 1#1) ∧
      w.extractLsb' 7 1 = 0#1 ∧ classOp1 w = 1#1 := by
  have hbits : ∀ (b7 : BitVec 1) (mid : BitVec 2) (b4 : BitVec 1),
      hits (b7 ++ mid ++ b4) 0b1001#4 0b0001#4 = true ↔ b7 = 0#1 ∧ b4 = 1#1 := by decide
  rw [decodeSubform_eq_some, formPredicate_of_resolved rfl, testWithoutS_dpOp1_eq_false, ← dpOp2_eq,
    ← hbits (w.extractLsb' 7 1) (w.extractLsb' 5 2) (classOp1 w)]
  rfl

theorem decodeSubform_eq_immediate : decodeSubform w = some .dataProcessingImmediate ↔
    classGate w = 0b00#2 ∧ dpOp w = 1#1 ∧ (isTestOpcode (dpOpcode w) = true → bit20 w = 1#1) := by
  rw [decodeSubform_eq_some, formPredicate_of_resolved rfl, testWithoutS_dpOp1_eq_false]
  exact and_congr_right' (and_congr_right' (and_iff_left (hits_zero _)))

end

/-! ### The decoder and the stages of the tree (R66, R221) -/

/-- The four stages of the tree answer, for a word, what the row of the instruction reports. -/
structure Resolves (p : Class11xPolicy) (w : Word) (i : Instr) : Prop where
  condition_eq : decodeCondition w = some (instrCondition i)
  class_eq : decodeClass p w = some (instrClass i)
  form_eq : decodeSubform w = instrForm i
  mnemonic_eq : decodeInstruction p w = instrMnemonic i

section
variable {p : Class11xPolicy} {w : Word} {i : Instr} {c : Condition}

theorem resolves_of_report {k : InstructionClass} {f : Option DataProcessingForm} {m : Mnemonic}
    (hi : instrReport i = (c, k, f, m)) (hc : conditionCode c = condField w) (hclass : decodeClass p w = some k)
    (hf : decodeSubform w = f) (hm : (decodeCondition w).isSome = true → decodeInstruction p w = m) :
    Resolves p w i := by
  cases hi
  have hc := decodeCondition_of_condField hc.symm
  exact ⟨hc, hclass, hf, hm (Option.isSome_of_eq_some hc)⟩

theorem resolves_of_form {f : DataProcessingForm}
    (hi : instrReport i = (c, .dataProcessing, some f, dpMnemonic (dpOpcode w))) (hc : conditionCode c = condField w)
    (hs : decodeSubform w = some f) (hf : isResolvedForm f = true) : Resolves p w i :=
  resolves_of_report hi hc (decodeClass_of_gate p (decodeSubform_eq_some.mp hs).1) hs fun hcond =>
    (decodeInstruction_of_form hcond hs).trans (if_pos hf)

theorem resolves_of_dataProcessingCase (hc : conditionCode c = condField w) (hg : classGate w = 0b00#2)
    (h : DataProcessingCase c w (.ok i)) : Resolves p w i := by
  cases h with
  | immediate hS hop =>
    exact resolves_of_form (instrReport_immediateInstr ..) hc (decodeSubform_eq_immediate.mpr ⟨hg, hop, hS⟩) rfl
  | register hS hop h4 =>
    exact resolves_of_form (instrReport_registerInstr ..) hc (decodeSubform_eq_register.mpr ⟨hg, hop, hS, h4⟩) rfl
  | registerShifted hS hop h4 h7 =>
    exact resolves_of_form (instrReport_registerShiftedInstr ..) hc
      (decodeSubform_eq_registerShifted.mpr ⟨hg, hop, hS, h7, h4⟩) rfl

/-- A word that decodes goes through the tree to the row of its instruction. -/
theorem resolves_of_decode (h : decode p w = .ok i) : Resolves p w i := by
  have hcase := decode_case p w
  rw [h] at hcase
  have hnone {g : BitVec 2} (hg : classGate w = g) (hne : g ≠ 0b00#2) : decodeSubform w = none :=
    decodeSubform_eq_none.mpr (hg ▸ hne)
  cases hcase with
  | dataProcessing hc hg hr => exact resolves_of_dataProcessingCase hc hg hr
  | loadStore hc hg hop =>
    have hclass : decodeClass p w = some .loadStore :=
      decodeClass_of_classOp p (k := 0b010#3) (by rw [← classGate_append_dpOp, hg, hop]; rfl)
    exact resolves_of_report (instrReport_decodeLoadStore _ w) hc hclass (hnone hg (by decide))
      fun hcond => decodeInstruction_of_loadStore hcond hclass
  | branch hc hg =>
    have hclass : decodeClass p w = some .branch := decodeClass_eq_branch.mpr hg
    exact resolves_of_report (instrReport_decodeBranch _ w) hc hclass (hnone hg (by decide))
      fun hcond => decodeInstruction_of_branch hcond hclass
  | swi hc hg hp =>
    have hclass : decodeClass p w = some .supervisorCall := decodeClass_eq_supervisorCall.mpr ⟨hp, hg⟩
    exact resolves_of_report rfl hc hclass (hnone hg (by decide))
      fun hcond => decodeInstruction_of_supervisorCall hcond hclass

theorem wf_of_decode (h : decode p w = .ok i) : i.wf p = true := by
  refine wf_iff.mpr fun hswi => ?_
  have hclass := (resolves_of_decode h).class_eq
  rw [hswi] at hclass
  exact (decodeClass_eq_supervisorCall.mp hclass).1

end

/-- Settles O38: the decoder keeps every bit of the word, and the class stage finds a Swi under its policy only. -/
theorem encodeOfDecodeIsTheWord : Obligations.EncodeOfDecodeIsTheWord :=
  fun _ _ _ h => ⟨encode_of_decode h, wf_of_decode h⟩

/-! ### Rejected words (R227) -/

/-- The stage of the tree that finds nothing under each name of the decoder. The name `truncated` is for runs of bytes
only. -/
def RejectCause (p : Class11xPolicy) (w : Word) : DecodeReject → Prop
  | .unrecognizedCondition => decodeCondition w = none
  | .unrecognizedClass => decodeCondition w ≠ none ∧ decodeClass p w = none
  | .unresolvedSubform => decodeCondition w ≠ none ∧ ∃ f, decodeSubform w = some f ∧ isResolvedForm f = false
  | .loadStoreMultiple => decodeCondition w ≠ none ∧ decodeClass p w = some .loadStoreMultiple
  | .media => decodeCondition w ≠ none ∧ decodeClass p w = some .media
  | .truncated => False

section
variable {p : Class11xPolicy} {w : Word} {r : DecodeReject}

/-- The two ways out of the DataProcessing branch, a test opcode with S = 0 and bits 7 and 4 set, meet none of the
three resolved forms. -/
theorem unresolved_of_dataProcessingCase {c : Condition} (hg : classGate w = 0b00#2)
    (h : DataProcessingCase c w (.error r)) :
    r = .unresolvedSubform ∧ ∃ f, decodeSubform w = some f ∧ isResolvedForm f = false := by
  obtain ⟨f, hs⟩ := Option.isSome_iff_exists.mp ((isSome_decodeSubform w).mpr hg)
  have hr : r = .unresolvedSubform := by cases h <;> rfl
  refine ⟨hr, f, hs, Bool.eq_false_iff.mpr fun hf => ?_⟩
  have hne {b : BitVec 1} (h0 : b = 0#1) (h1 : b = 1#1) : False := absurd (h0.symm.trans h1) (by decide)
  cases h with
  | testWithoutS ht hS =>
    exact hne hS (testWithoutS_dpOp1_eq_false.mp (testWithoutS_of_resolved hs hf) ht)
  | bit7 hop h4 h7 =>
    obtain rfl | rfl | rfl := resolvedForm_cases hf
    · obtain ⟨_, _, _, h4'⟩ := decodeSubform_eq_register.mp hs
      exact hne h4' h4
    · obtain ⟨_, _, _, h7', _⟩ := decodeSubform_eq_registerShifted.mp hs
      exact hne h7' h7
    · obtain ⟨_, hop', _⟩ := decodeSubform_eq_immediate.mp hs
      exact hne hop hop'

theorem rejectCause_of_decode (h : decode p w = .error r) : RejectCause p w r := by
  have hc (hr : r ≠ .unrecognizedCondition) : decodeCondition w ≠ none := fun hnone => by
    rw [decode_of_no_condition hnone] at h
    exact hr (Except.error.inj h).symm
  have hclass {g : BitVec 2} {op : BitVec 1} (hg : classGate w = g) (hop : dpOp w = op) : classOp w = g ++ op := by
    rw [← classGate_append_dpOp, hg, hop]
  have hcase := decode_case p w
  rw [h] at hcase
  cases hcase with
  | unrecognizedCondition hnone => exact hnone
  | dataProcessing _ hg hr =>
    obtain ⟨rfl, hf⟩ := unresolved_of_dataProcessingCase hg hr
    exact ⟨hc nofun, hf⟩
  | loadStoreMultiple hg hop h4 => exact ⟨hc nofun, decodeClass_eq_loadStoreMultiple.mpr ⟨hclass hg hop, h4⟩⟩
  | media hg hop h4 => exact ⟨hc nofun, decodeClass_eq_media.mpr ⟨hclass hg hop, h4⟩⟩
  | unrecognizedClass hg hp => exact ⟨hc nofun, decodeClass_eq_none.mpr ⟨hp, hg⟩⟩

/-- Each cause is one of the five cases of R227. -/
theorem undefined_of_rejectCause (h : RejectCause p w r) : decodeInstruction p w = .undefined w := by
  refine decodeInstruction_eq_undefined_iff.mpr ⟨rfl, ?_⟩
  cases r with
  | unrecognizedCondition => exact .inl h
  | unrecognizedClass => exact .inr (.inl h.2)
  | unresolvedSubform => exact .inr (.inr (.inl h.2))
  | loadStoreMultiple => exact .inr (.inr (.inr (.inl h.2)))
  | media => exact .inr (.inr (.inr (.inr h.2)))
  | truncated => exact h.elim

/-- `Undefined` has no row (R253). -/
theorem instrMnemonic_ne_undefined (i : Instr) (u : Word) : instrMnemonic i ≠ .undefined u := by
  cases i <;> nofun

theorem decode_ne_ok_of_undefined (h : decodeInstruction p w = .undefined w) (i : Instr) : decode p w ≠ .ok i := by
  intro hi
  exact instrMnemonic_ne_undefined i w ((resolves_of_decode hi).mnemonic_eq.symm.trans h)

theorem exists_error_iff : (∃ r, decode p w = .error r) ↔ decodeInstruction p w = .undefined w := by
  constructor
  · rintro ⟨r, hr⟩
    exact undefined_of_rejectCause (rejectCause_of_decode hr)
  · intro h
    cases hd : decode p w with
    | ok i => exact absurd hd (decode_ne_ok_of_undefined h i)
    | error r => exact ⟨r, rfl⟩

/-- Class code 011 is gate 01 with bit 25 set. -/
theorem gate_of_classOp_011 (h : classOp w = 0b011#3) : classGate w = 0b01#2 ∧ dpOp w = 1#1 := by
  have htable : ∀ (g : BitVec 2) (op : BitVec 1), g ++ op = 0b011#3 → g = 0b01#2 ∧ op = 1#1 := by decide
  exact htable _ _ ((classGate_append_dpOp w).trans h)

theorem decode_of_rejectCause (h : RejectCause p w r) : decode p w = .error r := by
  cases r with
  | unrecognizedCondition => exact decode_of_no_condition h
  | unrecognizedClass =>
    obtain ⟨hc, hclass⟩ := h
    obtain ⟨c, hc⟩ := Option.ne_none_iff_exists'.mp hc
    obtain ⟨rfl, hg⟩ := decodeClass_eq_none.mp hclass
    rw [decode_of_gate_11 hc hg, if_neg nofun]
  | unresolvedSubform =>
    obtain ⟨r, hr⟩ := exists_error_iff.mpr (undefined_of_rejectCause h)
    obtain ⟨hc, f, hs, _⟩ := h
    obtain ⟨c, hc⟩ := Option.ne_none_iff_exists'.mp hc
    have hg := (decodeSubform_eq_some.mp hs).1
    have hcase := decodeDataProcessing_case c w
    rw [← decode_of_gate_00 (p := p) hc hg, hr] at hcase
    rw [hr, (unresolved_of_dataProcessingCase hg hcase).1]
  | loadStoreMultiple =>
    obtain ⟨hc, hclass⟩ := h
    obtain ⟨c, hc⟩ := Option.ne_none_iff_exists'.mp hc
    obtain ⟨hop, h4⟩ := decodeClass_eq_loadStoreMultiple.mp hclass
    obtain ⟨hg, hop⟩ := gate_of_classOp_011 hop
    simp [decode_of_gate_01 hc hg, hop, h4]
  | media =>
    obtain ⟨hc, hclass⟩ := h
    obtain ⟨c, hc⟩ := Option.ne_none_iff_exists'.mp hc
    obtain ⟨hop, h4⟩ := decodeClass_eq_media.mp hclass
    obtain ⟨hg, hop⟩ := gate_of_classOp_011 hop
    simp [decode_of_gate_01 hc hg, hop, h4]
  | truncated => exact h.elim

theorem decode_eq_error_iff : decode p w = .error r ↔ RejectCause p w r :=
  ⟨rejectCause_of_decode, decode_of_rejectCause⟩

end

/-- Settles O39: the tree answers what the row of the instruction reports, and `Undefined` for every cause of a
rejection. -/
theorem decoderAgreesWithResolver : Obligations.DecoderAgreesWithResolver :=
  fun _ _ => ⟨fun _ h => ⟨(resolves_of_decode h).mnemonic_eq, (resolves_of_decode h).condition_eq⟩, exists_error_iff⟩

/-- Settles O40: the cause under each name, on the bits its stage reads. -/
theorem decoderRejectsByName : Obligations.DecoderRejectsByName := by
  unfold Obligations.DecoderRejectsByName
  intro p w
  have hcond : decodeCondition w ≠ none ↔ w.extractLsb 31 28 ≠ 0b1111#4 := decodeCondition_eq_none.not
  refine ⟨decode_eq_error_iff.trans decodeCondition_eq_none,
    decode_eq_error_iff.trans (and_congr hcond decodeClass_eq_none), decode_eq_error_iff.trans (and_congr hcond ?_),
    decode_eq_error_iff.trans (and_congr hcond ?_), decode_eq_error_iff.trans (and_congr hcond ?_),
    decode_ne_truncated p w⟩
  · simp only [isResolvedForm_eq_false_iff]
  · exact decodeClass_eq_loadStoreMultiple.trans (and_congr_right' classOp1_eq_zero_iff)
  · exact decodeClass_eq_media.trans (and_congr_right' classOp1_eq_one_iff)

end Sys2Proof.Instructions

/-! ## One evaluation of the block (spec/10_state.md sections 1 and 3, spec/44_mnemonic.md section 3)

An instruction that is well-formed reports what its row says (`exec_eq_reporting`), and that is what the ports make of
its word (`exec_eq_next`). So a step, whether it runs an instruction or reports `Undefined`, computes every output from
the inputs present (`step_eq_next`), and what a step leaves alone or depends on is read off that one equation. -/

namespace Sys2Proof.Evaluation

open Sys2Proof.Machine Sys2Proof.Decoding Sys2Proof.Identifiers Sys2Proof.Ports Sys2Proof.Conditions Sys2Proof.Classes
open Sys2Proof.Subforms Sys2Proof.Mnemonics Sys2Proof.Errors Sys2Proof.Instructions

/-! ### What a well-formed instruction reports (R230 to R252) -/

theorem mnemonicWord_instrMnemonic (i : Instr) : mnemonicWord (instrMnemonic i) = 0 := by
  cases i <;> rfl

/-- No error and no conflict can be raised: a row of the gate has a sub-form, and no two predicates meet. -/
theorem drivenOutputs_eq_resolvedPorts (i : Instr) :
    drivenOutputs (encode i) (some (instrCondition i)) (some (instrClass i)) (instrForm i) (instrMnemonic i) =
      resolvedPorts (instrCondition i) (classId (instrClass i)) ((instrForm i).map formId)
        (mnemonicId (instrMnemonic i)) (mnemonicImm24 (instrMnemonic i)) (encode i) := by
  simpa [drivenOutputs, resolvedPorts, mnemonicWord_instrMnemonic] using isSome_instrForm

theorem exec_eq_reporting {i : Instr} {s : State} (h : i.wf s.params.class11xPolicy = true) :
    exec i s = .next (s.reporting (instrCondition i) (classId (instrClass i)) ((instrForm i).map formId)
      (mnemonicId (instrMnemonic i)) (mnemonicImm24 (instrMnemonic i)) (encode i)) := by
  rw [exec_of_wf h, State.resolve, drivenOutputs_eq_resolvedPorts]
  rfl

/-- Settles O48, row by row. -/
theorem registerFormsComplete : Obligations.RegisterFormsComplete := by
  unfold Obligations.RegisterFormsComplete
  intros
  and_intros <;> exact exec_eq_reporting rfl

/-- Settles O49, row by row. -/
theorem registerShiftedFormsComplete : Obligations.RegisterShiftedFormsComplete := by
  unfold Obligations.RegisterShiftedFormsComplete
  intros
  and_intros <;> exact exec_eq_reporting rfl

/-- Settles O50, row by row. -/
theorem immediateFormsComplete : Obligations.ImmediateFormsComplete := by
  unfold Obligations.ImmediateFormsComplete
  intros
  and_intros <;> exact exec_eq_reporting rfl

/-- Settles O51, row by row. -/
theorem loadStoreInstructionsComplete : Obligations.LoadStoreInstructionsComplete := by
  unfold Obligations.LoadStoreInstructionsComplete
  intros
  and_intros <;> exact exec_eq_reporting rfl

/-- Settles O52, row by row. -/
theorem branchInstructionsComplete : Obligations.BranchInstructionsComplete := by
  unfold Obligations.BranchInstructionsComplete
  intros
  and_intros <;> exact exec_eq_reporting rfl

/-- Settles O53: the policy makes the Swi row well-formed. -/
theorem swiCompletesUnderSupervisorCall : Obligations.SwiCompletesUnderSupervisorCall :=
  fun c hi imm _ hp => exec_eq_reporting (i := .swi c hi imm) (wf_iff.mpr fun _ => hp)

/-! ### An instruction is the port functions of its word (R30) -/

/-- The state in which the decode outputs are the port functions of `w`, the encode outputs those of the encode inputs,
and nothing else is changed. -/
abbrev evaluated (s : State) (w : Word) : State := s.settle (decodeGroup s.params.class11xPolicy w)

theorem execUndefined_eq_next_evaluated {s : State} {w : Word}
    (h : decodeInstruction s.params.class11xPolicy w = .undefined w) : execUndefined w s = .next (evaluated s w) := by
  rw [execUndefined, ← h]
  rfl

theorem resolve_of_resolves {s : State} {w : Word} {i : Instr} (h : Resolves s.params.class11xPolicy w i) :
    s.resolve (instrCondition i) (instrClass i) (instrForm i) (instrMnemonic i) w = .next (evaluated s w) := by
  rw [State.resolve, ← h.condition_eq, ← h.class_eq, ← h.form_eq, ← h.mnemonic_eq]
  rfl

/-- A word whose instruction the policy takes away decodes to nothing, since what decodes is well-formed. -/
theorem undefined_of_not_wf {p : Class11xPolicy} {i : Instr} (h : i.wf p = false) :
    decodeInstruction p (encode i) = .undefined (encode i) := by
  refine exists_error_iff.mp ?_
  cases i with
  | swi c hi imm =>
    refine ⟨.unrecognizedClass, (decode_swiWord p c hi imm).trans (if_neg fun hp => ?_)⟩
    rw [hp] at h
    cases h
  | _ => cases h

/-- A well-formed instruction is what its word decodes to, so the stages of the ports answer its row; an ill-formed one
is reported as its word's `Undefined`, which is what the ports answer (log 11). -/
theorem exec_eq_next (i : Instr) (s : State) : exec i s = .next (evaluated s (encode i)) := by
  cases hwf : i.wf s.params.class11xPolicy with
  | true => rw [exec_of_wf hwf, resolve_of_resolves (resolves_of_decode (decode_encode_of_wf hwf))]
  | false => rw [exec_of_not_wf hwf, execUndefined_eq_next_evaluated (undefined_of_not_wf hwf)]

/-- Settles O45: well-formed or not, an instruction reports what the ports make of its word. -/
theorem instructionMeaningsAreThePortFunctions : Obligations.InstructionMeaningsAreThePortFunctions :=
  exec_eq_next

/-- Settles O54: the word keeps its condition, its class stage finds nothing (R302), and gate 11 has no sub-form. -/
theorem swiWordUnderReject : Obligations.SwiWordUnderReject := by
  unfold Obligations.SwiWordUnderReject
  intro c hi imm s hp
  have hg : classGate (swiWord c hi imm) = 0b11#2 := classGate_swiWord c hi imm
  have hcond : decodeCondition (swiWord c hi imm) = some c := decodeCondition_of_condField (condField_swiWord c hi imm)
  have hclass : decodeClass .reject (swiWord c hi imm) = none := decodeClass_eq_none.mpr ⟨rfl, hg⟩
  have hform : decodeSubform (swiWord c hi imm) = none := decodeSubform_eq_none.mpr (by rw [hg]; decide)
  have hmnem := decodeInstruction_of_unresolved_class (.inl hclass)
  rw [exec_eq_next, evaluated, hp, encode, decodeGroup_eq, hcond, hclass, hform, hmnem]
  simp [State.settle, drivenOutputs, hg, mnemonicId, mnemonicImm24, mnemonicWord]

/-! ### A step (R336) -/

/-- A step runs the instruction of the word on `dec_word`, whose encoding is that word, or reports it as `Undefined`. -/
theorem step_eq_next (s : State) : step s = .next (evaluated s s.decWord) := by
  unfold step
  split
  case h_1 i hi => rw [exec_eq_next, encode_of_decode hi]
  case h_2 r hr => exact execUndefined_eq_next_evaluated (exists_error_iff.mp ⟨r, hr⟩)

/-- All that a step can do. -/
theorem eq_evaluated_of_step {s t : State} (h : step s = .next t) : t = evaluated s s.decWord :=
  (Host.Outcome.next.inj ((step_eq_next s).symm.trans h)).symm

/-- Settles O46: whether the word decodes or not, its outputs are the port functions. -/
theorem stepComputesEveryPort : Obligations.StepComputesEveryPort :=
  step_eq_next

theorem step_of_decode {s : State} {i : Instr} (h : decode s.params.class11xPolicy s.decWord = .ok i) :
    step s = exec i s := by
  rw [step, h]

/-- Settles O43: a step is a decode and then `exec`. -/
theorem stepRunsTheDecodedInstruction : Obligations.StepRunsTheDecodedInstruction :=
  fun _ _ _ => step_of_decode

theorem withFetchWord_toNat (s : State) (w : Word) : s.withFetchWord 32 w.toNat = s.driveDecWord w := by
  rw [State.withFetchWord, Nat.mod_eq_of_lt w.isLt, BitVec.ofNat_toNat, BitVec.setWidth_eq]

/-- Settles O44: the placed word decodes to the instruction it encodes. -/
theorem placedWordIsTheNextInstruction : Obligations.PlacedWordIsTheNextInstruction := by
  unfold Obligations.PlacedWordIsTheNextInstruction
  intro s i hwf
  rw [withFetchWord_toNat]
  exact ⟨step_of_decode (decode_encode_of_wf hwf), rfl⟩

/-- Settles O47: each alternative is a case of `Undefined`, which carries the word and no immediate. -/
theorem stepOnAnUndefinedWord : Obligations.StepOnAnUndefinedWord := by
  unfold Obligations.StepOnAnUndefinedWord
  intro s h
  have hundef : decodeInstruction s.params.class11xPolicy s.decWord = .undefined s.decWord := by
    refine (undefinedExactlyInFiveCases _ _ _).mpr ⟨rfl, ?_⟩
    rcases h with hcond | hclass | hop | hform
    · exact .inl hcond
    · exact .inr (.inl hclass)
    · cases h4 : s.decWord.getLsbD 4 with
      | false => exact .inr (.inr (.inr (.inl ⟨hop, rfl⟩)))
      | true => exact .inr (.inr (.inr (.inr ⟨hop, rfl⟩)))
    · exact .inr (.inr (.inl hform))
  refine ⟨_, step_eq_next s, ?_, undefWord_of_undefined hundef, rfl, ?_, rfl, rfl, rfl, rfl⟩
  · rw [settle_decOut, decodeGroup_eq, drivenOutputs_mnemId, hundef]
    rfl
  · rw [settle_decOut, decodeGroup_eq, drivenOutputs_swiImm24, hundef]
    rfl

/-- Settles O55: an evaluation writes outputs only. -/
theorem inputsAndParametersAreNeverWritten : Obligations.InputsAndParametersAreNeverWritten := by
  unfold Obligations.InputsAndParametersAreNeverWritten
  refine ⟨fun i s t h => ?_, fun s t h => ?_⟩
  · obtain rfl := Host.Outcome.next.inj ((exec_eq_next i s).symm.trans h)
    exact ⟨rfl, rfl, rfl⟩
  · obtain rfl := eq_evaluated_of_step h
    exact ⟨rfl, rfl, rfl⟩

/-- Settles O56: the inputs are kept, so a further step computes the same outputs. -/
theorem everyStepSettles : Obligations.EveryStepSettles :=
  fun s => ⟨evaluated s s.decWord, step_eq_next s, ⟨rfl, rfl⟩, step_eq_next (evaluated s s.decWord)⟩

/-- Settles O59: the decode outputs are a function of the policy and `dec_word`, the encode outputs of the encode
inputs. -/
theorem outputsDependOnTheirOwnInputs : Obligations.OutputsDependOnTheirOwnInputs := by
  unfold Obligations.OutputsDependOnTheirOwnInputs
  intro s s' t t' ht ht'
  rw [eq_evaluated_of_step ht, eq_evaluated_of_step ht']
  refine ⟨fun hp hw => ?_, fun he => ?_⟩
  · rw [settle_decOut, settle_decOut, hp, hw]
  · rw [settle_encOut, settle_encOut, he]

end Sys2Proof.Evaluation

/-! ## Sub-form patterns on the word (spec/43_dp_subform.md section 2)

The word-level pattern of a sub-form is its encode pattern with the class gate added; `11x1` on `dpOp2` is a second
pattern of two of them. -/

namespace Sys2Proof.Patterns

open Sys2Proof.Machine Sys2Proof.Decoding Sys2Proof.Table Sys2Proof.Subforms Sys2Proof.Instructions

/-- A pattern that fixes the gate at 00 and bit 25 at `b`, on the parts of the key. -/
theorem and_eq_iff_key {m v : Word} {b : BitVec 1} (hm : InKey m ∧ classOp m = 0b111#3)
    (hv : InKey v ∧ classOp v = 0b00#2 ++ b) (w : Word) : w &&& m = v ↔ (classGate w = 0b00#2 ∧ dpOp w = b) ∧
      hits (dpOp1 w) (dpOp1 m) (dpOp1 v) = true ∧ hits (dpOp2 w) (dpOp2 m) (dpOp2 v) = true := by
  rw [and_eq_iff_hits hm.1 hv.1, hm.2, hv.2, ← classGate_append_dpOp, hits_classOp]

/-- The mask the spec writes beside a sub-form: its encode mask and the class gate. -/
def wordMask (f : DataProcessingForm) : Word := encodeMask f ||| 0x0C000000

theorem wordMask_slices : ∀ f ∈ allForms, (InKey (wordMask f) ∧ classOp (wordMask f) = 0b111#3) ∧
    (InKey (encodeValue f) ∧ classOp (encodeValue f) = 0b00#2 ++ dpOp (encodeValue f)) ∧
    dpOp1 (wordMask f) = dpOp1 (encodeMask f) ∧ dpOp2 (wordMask f) = dpOp2 (encodeMask f) := by
  decide

theorem and_wordMask_eq_iff (f : DataProcessingForm) (w : Word) : w &&& wordMask f = encodeValue f ↔
    (classGate w = 0b00#2 ∧ dpOp w = dpOp (encodeValue f)) ∧
      hits (dpOp1 w) (dpOp1 (encodeMask f)) (dpOp1 (encodeValue f)) = true ∧
      hits (dpOp2 w) (dpOp2 (encodeMask f)) (dpOp2 (encodeValue f)) = true := by
  obtain ⟨hm, hv, hm1, hm2⟩ := wordMask_slices f (mem_allForms f)
  rw [and_eq_iff_key hm hv, hm1, hm2]

theorem mem_matchingForms_iff {w : Word} {f : DataProcessingForm} : f ∈ matchingForms w ↔
    classGate w = 0b00#2 ∧ formPredicate f (dpOp w) (dpOp1 w) (dpOp2 w) = true := by
  by_cases hg : classGate w = 0b00#2 <;> simp [matchingForms, formsOfKey, hg, mem_allForms]

/-- A sub-form with one pattern. -/
theorem mem_matchingForms_iff_pattern {f : DataProcessingForm} (hf : ∀ op2, secondAlternative f op2 = false)
    (w : Word) : f ∈ matchingForms w ↔ w &&& wordMask f = encodeValue f ∧ ¬ formExclusion f (dpOp1 w) = true := by
  rw [mem_matchingForms_iff, formPredicate_iff, formOp1, formOp2, hf, and_wordMask_eq_iff, Bool.or_false,
    Bool.and_eq_true, Bool.not_eq_true', Bool.not_eq_true]
  tauto

/-- A sub-form with the second pattern `11x1` on `dpOp2`, written over the word as the mask `m` and the value `v`. -/
theorem mem_matchingForms_iff_patterns {f : DataProcessingForm} {m v : Word}
    (hf : ∀ op2, secondAlternative f op2 = hits op2 (dpOp2 m) (dpOp2 v))
    (hm : InKey m ∧ classOp m = 0b111#3) (hv : InKey v ∧ classOp v = 0b00#2 ++ dpOp (encodeValue f))
    (h1 : dpOp1 m = dpOp1 (encodeMask f) ∧ dpOp1 v = dpOp1 (encodeValue f)) (w : Word) : f ∈ matchingForms w ↔
      (w &&& wordMask f = encodeValue f ∨ w &&& m = v) ∧ ¬ formExclusion f (dpOp1 w) = true := by
  rw [mem_matchingForms_iff, formPredicate_iff, formOp1, formOp2, hf, and_wordMask_eq_iff, and_eq_iff_key hm hv,
    h1.1, h1.2, Bool.or_eq_true, Bool.and_eq_true, Bool.not_eq_true', Bool.not_eq_true]
  tauto

/-- Settles O18: the pattern of each sub-form is its encode pattern under the gate, less its exclusion. -/
theorem subformWordPatterns : Obligations.SubformWordPatterns := by
  unfold Obligations.SubformWordPatterns
  intro w f
  cases f with
  | dataProcessingRegister | dataProcessingRegisterShifted | dataProcessingImmediate =>
    exact (mem_matchingForms_iff_pattern (fun _ => rfl) w).trans (and_congr_right' (testWithoutS_iff w).not)
  | extraLoadStore =>
    exact (mem_matchingForms_iff_patterns (m := 0x0E0000D0) (v := 0x000000D0) (by decide) (by decide) (by decide)
      (by decide) w).trans (and_congr_right' (unprivilegedOp1_iff w).not)
  | extraLoadStoreUnprivileged =>
    exact (mem_matchingForms_iff_patterns (m := 0x0F2000D0) (v := 0x002000D0) (by decide) (by decide) (by decide)
      (by decide) w).trans (and_iff_left Bool.false_ne_true)
  | miscellaneous | halfwordMultiply | multiplyAccumulate | synchronizationPrimitives | movImmediate16
  | movTopImmediate16 | msrImmediateHints =>
    exact (mem_matchingForms_iff_pattern (fun _ => rfl) w).trans (and_iff_left Bool.false_ne_true)

end Sys2Proof.Patterns

/-! ## The S bit of the test mnemonics (spec/44_mnemonic.md section 1, R222) -/

namespace Sys2Proof.TestMnemonics

open Sys2Proof.Machine Sys2Proof.Decoding Sys2Proof.Ports Sys2Proof.Table Sys2Proof.Subforms Sys2Proof.Mnemonics
open Sys2Proof.Instructions

/-- The mnemonics that always affect flags. -/
abbrev IsTest (m : Mnemonic) : Prop := m ∈ [Mnemonic.tst, .teq, .cmp, .cmn]

theorem isTest_dpMnemonic : ∀ k : BitVec 4, IsTest (dpMnemonic k) ↔ isTestOpcode k = true := by
  decide

theorem not_isTest_lsMnemonic : ∀ l b : BitVec 1, ¬ IsTest (lsMnemonic l b) := by
  decide

theorem not_isTest_branchMnemonic : ∀ link : BitVec 1, ¬ IsTest (branchMnemonic link) := by
  decide

/-! ### Decoding -/

section
variable {p : Class11xPolicy} {w : Word}

theorem bit20_eq_one_iff : bit20 w = 1#1 ↔ w.getLsbD 20 = true := by
  rw [bit20, extractLsb'_one_eq_ofBool]
  cases w.getLsbD 20 <;> decide

/-- Only the resolved forms give a test mnemonic, and they leave out the test opcodes with S = 0. -/
theorem getLsbD_20_of_isTest (h : IsTest (decodeInstruction p w)) : w.getLsbD 20 = true := by
  have hcase := decodeInstruction_case p w
  generalize decodeInstruction p w = m at hcase h
  cases hcase with
  | noCondition | unresolvedClass | unresolvedForm | swi => simp at h
  | loadStore => exact absurd h (not_isTest_lsMnemonic _ _)
  | branch => exact absurd h (not_isTest_branchMnemonic _)
  | dataProcessing _ hs hf =>
    exact bit20_eq_one_iff.mp
      (testWithoutS_dpOp1_eq_false.mp (testWithoutS_of_resolved hs hf) ((isTest_dpMnemonic _).mp h))

theorem isResolvedForm_of_testWithoutS {f : DataProcessingForm} (hS : testWithoutS (dpOp1 w) = true)
    (hs : decodeSubform w = some f) : isResolvedForm f = false := by
  refine Bool.eq_false_iff.mpr fun hf => ?_
  rw [testWithoutS_of_resolved hs hf] at hS
  cases hS

/-- Opcodes 10xx are bits 24:23 = 10. -/
theorem testWithoutS_of_bits (hop : w.extractLsb 24 23 = 0b10#2) (h20 : w.getLsbD 20 = false) :
    testWithoutS (dpOp1 w) = true := by
  have hS : bit20 w = 0#1 := by rw [bit20, extractLsb'_one_eq_ofBool, h20]; rfl
  have htest : isTestOpcode (dpOpcode w) = true := by
    have htable : ∀ high low : BitVec 2, isTestOpcode (high ++ low) = (high == 0b10#2) := by decide
    have hjoin : w.extractLsb' 23 2 ++ w.extractLsb' 21 2 = dpOpcode w :=
      BitVec.extractLsb'_append_extractLsb'_eq_extractLsb' rfl
    rw [← hjoin, htable]
    exact beq_iff_eq.mpr hop
  rw [testWithoutS_dpOp1, htest, hS]
  rfl

theorem unresolved_of_testWithoutS (p : Class11xPolicy) (hg : classGate w = 0b00#2)
    (hS : testWithoutS (dpOp1 w) = true) :
    decodeInstruction p w = .undefined w ∧ ∃ f, decodeSubform w = some f ∧ isResolvedForm f = false := by
  obtain ⟨f, hs⟩ := Option.isSome_iff_exists.mp ((isSome_decodeSubform w).mpr hg)
  have hform : ∃ f, decodeSubform w = some f ∧ isResolvedForm f = false :=
    ⟨f, hs, isResolvedForm_of_testWithoutS hS hs⟩
  exact ⟨decodeInstruction_eq_undefined_iff.mpr ⟨rfl, .inr (.inr (.inl hform))⟩, hform⟩

/-- A data-processing word that resolves has the mnemonic of its opcode. -/
theorem undefined_or_dpMnemonic (p : Class11xPolicy) (hg : classGate w = 0b00#2) :
    decodeInstruction p w = .undefined w ∨ decodeInstruction p w = dpMnemonic (dpOpcode w) := by
  have hclass : decodeClass p w = some .dataProcessing := decodeClass_of_gate p hg
  have hcase := decodeInstruction_case p w
  generalize decodeInstruction p w = m at hcase
  cases hcase with
  | noCondition | unresolvedClass | unresolvedForm => exact .inl rfl
  | dataProcessing => exact .inr rfl
  | loadStore _ h | branch _ h | swi _ h => rw [hclass] at h; cases h

end

/-! ### Encoding -/

theorem getLsbD_20_encode_test {m : Mnemonic} (h : IsTest m) (ob : Word) :
    (encodeInstruction m ob).getLsbD 20 = true := by
  have hdp (k : BitVec 4) (hk : isTestOpcode k = true) : (encodeInstruction (dpMnemonic k) ob).getLsbD 20 = true := by
    rw [encodeInstruction_dpMnemonic, encodeDataProcessing, if_pos hk, getLsbD_putBits _ _ _ _ (by decide)]
    rfl
  simp only [IsTest, List.mem_cons, List.not_mem_nil, or_false] at h
  obtain rfl | rfl | rfl | rfl := h
  · exact hdp 0b1000#4 rfl
  · exact hdp 0b1001#4 rfl
  · exact hdp 0b1010#4 rfl
  · exact hdp 0b1011#4 rfl

/-- The bits that every data-processing mnemonic writes do not meet S. -/
theorem getLsbD_20_writtenDataProcessing (ob : Word) :
    (writtenMask.writtenDataProcessing ob).getLsbD 20 = false := by
  unfold writtenMask.writtenDataProcessing
  split_ifs <;> rfl

/-- Settles O24: a test opcode with S = 0 has no resolved form, the encoder sets S for the test opcodes and does not
write it for the others, and the mnemonic is that of the opcode, which bit 20 is no part of. -/
theorem testMnemonicsCarryS : Obligations.TestMnemonicsCarryS := by
  unfold Obligations.TestMnemonicsCarryS
  refine ⟨fun p w => getLsbD_20_of_isTest, fun p w hg hop h20 => ?_, fun m ob h => getLsbD_20_encode_test h ob,
    fun m ob h => ?_, fun p w f hg => ?_⟩
  · obtain ⟨hundef, f, hs, hf⟩ := unresolved_of_testWithoutS p hg (testWithoutS_of_bits hop h20)
    simp only [hs, ne_eq, Option.some_inj]
    exact ⟨hundef, (isResolvedForm_eq_false_iff f).mp hf⟩
  · refine encodeInstruction_frame m ob 20 (by decide) ?_
    simp only [List.mem_cons, List.not_mem_nil, or_false] at h
    rcases h with rfl | rfl | rfl | rfl | rfl | rfl | rfl | rfl | rfl | rfl | rfl | rfl
    all_goals exact getLsbD_20_writtenDataProcessing ob
  · have hg' : classGate (putBits w 20 f) = 0b00#2 :=
      (extractLsb'_putBits_of_disjoint w 20 f 26 2 (by decide) (by decide)).trans hg
    have hop : dpOpcode (putBits w 20 f) = dpOpcode w :=
      extractLsb'_putBits_of_disjoint w 20 f 21 4 (by decide) (by decide)
    rcases undefined_or_dpMnemonic p hg with hw | hw
    · exact .inl hw
    rcases undefined_or_dpMnemonic p hg' with hu | hu
    · exact .inr (.inl hu)
    · exact .inr (.inr (by rw [hu, hop, hw]))

end Sys2Proof.TestMnemonics

/-! ## Bits that no decode rule reads (spec/30_encoding.md section 1)

Every field that a stage reads lies in bits 31:20 or 7:4. -/

namespace Sys2Proof.UnreadBits

open Sys2Proof.Machine Sys2Proof.Conditions Sys2Proof.Classes

/-- Words that agree in a range agree in each field of it. -/
theorem extractLsb'_congr {w u : Word} {hi lo : Nat} (h : w.extractLsb hi lo = u.extractLsb hi lo) (start len : Nat)
    (hlo : lo ≤ start) (hhi : start + len ≤ hi + 1) : w.extractLsb' start len = u.extractLsb' start len := by
  apply BitVec.eq_of_getLsbD_eq
  intro i hi'
  have hbit := congrArg (·.getLsbD (start - lo + i)) h
  have hidx : lo + (start - lo + i) = start + i := by omega
  have hin : start - lo + i ≤ hi - lo := by omega
  simpa [hidx, hin, hi'] using hbit

theorem decodeSubform_congr {w u : Word} (hg : classGate w = classGate u) (hop : dpOp w = dpOp u)
    (hop1 : dpOp1 w = dpOp1 u) (hop2 : dpOp2 w = dpOp2 u) : decodeSubform w = decodeSubform u := by
  rw [decodeSubform, decodeSubform, matchingForms, matchingForms, hg, hop, hop1, hop2]

/-- The stages, the opcode and the bits L, B and link decide the mnemonic, up to the payload it carries. -/
theorem mnemonicId_decodeInstruction_congr {p : Class11xPolicy} {w u : Word}
    (hcond : decodeCondition w = decodeCondition u) (hclass : decodeClass p w = decodeClass p u)
    (hform : decodeSubform w = decodeSubform u) (hop : dpOpcode w = dpOpcode u) (h20 : bit20 w = bit20 u)
    (h22 : bit22 w = bit22 u) (h24 : bit24 w = bit24 u) :
    mnemonicId (decodeInstruction p w) = mnemonicId (decodeInstruction p u) := by
  rw [decodeInstruction, decodeInstruction, hcond, hclass, hform, hop, h20, h22, h24]
  cases decodeCondition u with
  | none => rfl
  | some c =>
    cases decodeClass p u with
    | none => rfl
    | some k =>
      cases k with
      | dataProcessing =>
        cases decodeSubform u with
        | none => rfl
        | some f => cases hf : isResolvedForm f <;> simp [hf, mnemonicId]
      | _ => rfl

/-- Settles O60: the fields of the stages lie in the two ranges. -/
theorem unreadBitsDoNotChangeTheResult : Obligations.UnreadBitsDoNotChangeTheResult := by
  unfold Obligations.UnreadBitsDoNotChangeTheResult
  intro p w u hhigh hlow
  have high := extractLsb'_congr hhigh
  have low := extractLsb'_congr hlow
  have hcond : decodeCondition w = decodeCondition u := decodeCondition_congr (high 28 4 (by decide) (by decide))
  have hclass : decodeClass p w = decodeClass p u :=
    decodeClass_congr p (high 25 3 (by decide) (by decide)) (low 4 1 (by decide) (by decide))
  have hform : decodeSubform w = decodeSubform u :=
    decodeSubform_congr (high 26 2 (by decide) (by decide)) (high 25 1 (by decide) (by decide))
      (high 20 5 (by decide) (by decide)) (low 4 4 (by decide) (by decide))
  exact ⟨hcond, hclass, hform, mnemonicId_decodeInstruction_congr hcond hclass hform
    (high 21 4 (by decide) (by decide)) (high 20 1 (by decide) (by decide)) (high 22 1 (by decide) (by decide))
    (high 24 1 (by decide) (by decide))⟩

end Sys2Proof.UnreadBits
